-- ==== Sys2Proof/Word.lean ====
section
/-! DEFINITION. The words of the block and the closed sets of names of 00_scope.md R6 and R8. -/

namespace Sys2Proof

/-- A byte: 8 bits, unsigned (00_scope.md R6). -/
abbrev Byte := BitVec 8

/-- An angle register: 16-bit two's complement, counts of 0.1 degree (10_state.md R16). -/
abbrev Angle := BitVec 16

/-- A `speedParam`: 16 bits unsigned (10_state.md R15). -/
abbrev Speed := BitVec 16

/-- A PWM duty register: 8 bits unsigned (10_state.md R20). -/
abbrev Duty := BitVec 8

/-- The two axes (00_scope.md R8). -/
inductive Axis where
  | az
  | el
  deriving DecidableEq, Repr

/-- A direction (00_scope.md R8, 10_state.md R13). -/
inductive Dir where
  | forward
  | backward
  deriving DecidableEq, Repr

/-- The tag the transport puts on a frame (30_encoding.md R60). -/
inductive Format where
  | binary
  | text
  deriving DecidableEq, Repr

/-- What an `Unknown` carries: the unmapped code byte or the unmatched token (00_scope.md R8). -/
inductive UnknownInfo where
  | code (b : Byte)
  | token (t : List Byte)
  deriving DecidableEq, Repr

/-- The commands of 00_scope.md R8. -/
inductive Command where
  | stop
  | stopAzOnly
  | stopElOnly
  | rotateAz (d : Dir)
  | rotateEl (d : Dir)
  | rotateBoth (azDir elDir : Dir)
  | queryAz
  | queryEl
  | queryBoth
  | unknown (info : UnknownInfo)
  deriving DecidableEq, Repr

/-- A frame as the transport delivers it, tagged (00_scope.md R8, 10_state.md R28). -/
inductive RawFrame where
  | binary (b : List Byte)
  | text (t : List Byte)
  deriving DecidableEq, Repr

/-- The four errors (60_exceptions.md R165). -/
inductive Error where
  | frameTooShort
  | badSyncBytes
  | unknownCommandCode
  | transportDisconnected
  deriving DecidableEq, Repr

/-- The info recorded with an error (60_exceptions.md R165, last column). -/
inductive ErrorInfo where
  | length (n : Nat)
  | syncBytes (b0 b1 : Byte)
  | unknown (info : UnknownInfo)
  | none
  deriving DecidableEq, Repr

end Sys2Proof
end

