-- ==== Sys2Proof/Config.lean ====
section
/-! DEFINITION. The configuration record `Cfg` of 00_scope.md R5 and the value this model's reset takes. -/

namespace Sys2Proof

/-- The two pulse-generation strategies (00_scope.md R5, 43_pulse_generation.md R140). -/
inductive Strategy where
  | busyWait
  | hwPwm
  deriving DecidableEq, Repr

/-- The physical pin of each of the five output pins (20_memory.md R52). -/
structure PinMap where
  azDir : Nat
  elDir : Nat
  azPul : Nat
  elPul : Nat
  ind : Nat
  deriving DecidableEq, Repr

/-- The implementation parameters (00_scope.md R5), a field for each row of its table. -/
structure Cfg where
  /-- `CMD_OFFSET` -/
  cmdOffset : Nat
  /-- `BIN_QUERY`: absent, or the pair `(q_az, q_el)` -/
  binQuery : Option (Byte × Byte)
  /-- `STRATEGY` -/
  strategy : Strategy
  /-- `SPEED_AZ`, microseconds -/
  speedAz : Nat
  /-- `SPEED_EL`, microseconds -/
  speedEl : Nat
  /-- `PWM_DUTY_ON` -/
  pwmDutyOn : Nat
  /-- `PWM_BITS` -/
  pwmBits : Nat
  /-- `PWM_FREQ_HZ` -/
  pwmFreqHz : Nat
  /-- `TICK_MS`, milliseconds -/
  tickMs : Nat
  /-- `ANGLE_UNIT`, the weight of one count, in tenths of a degree -/
  angleUnitTenths : Nat
  /-- `ANGLE_STEP`, counts per tick -/
  angleStep : Nat
  /-- `AZ_MOD`, counts -/
  azMod : Nat
  /-- `EL_MIN`, counts -/
  elMin : Int
  /-- `EL_MAX`, counts -/
  elMax : Int
  /-- `AZ_INIT`, counts -/
  azInit : Int
  /-- `EL_INIT`, counts -/
  elInit : Int
  /-- `PIN_AZ_DIR`, `PIN_EL_DIR`, `PIN_AZ_PUL`, `PIN_EL_PUL`, `PIN_IND` -/
  pins : PinMap
  deriving DecidableEq, Repr

/-- The values 00_scope.md R5 fixes. DESIGN CHOICE, unsafe (log entry 1): for the parameters it leaves
OPEN, `HwPwm` (the preferred strategy, R140), 1000 microseconds for both speeds and the pins 0 to 4. -/
def Cfg.fixed : Cfg :=
  { cmdOffset := 3
    binQuery := none
    strategy := .hwPwm
    speedAz := 1000
    speedEl := 1000
    pwmDutyOn := 128
    pwmBits := 8
    pwmFreqHz := 10000
    tickMs := 100
    angleUnitTenths := 1
    angleStep := 1
    azMod := 3600
    elMin := 0
    elMax := 900
    azInit := 0
    elInit := 0
    pins := { azDir := 0, elDir := 1, azPul := 2, elPul := 3, ind := 4 } }

/-- The speed parameter of an axis under `BusyWait`. -/
def Cfg.speedOf (c : Cfg) : Axis → Nat
  | .az => c.speedAz
  | .el => c.speedEl

/-- The constant that `ax.speedParam` holds (10_state.md R15). DESIGN CHOICE (log entry 2): under
`HwPwm` the 8-bit `PWM_DUTY_ON` is held zero-extended to the register's 16 bits. -/
def Cfg.speedParam (c : Cfg) (ax : Axis) : Speed :=
  match c.strategy with
  | .busyWait => BitVec.ofNat 16 (c.speedOf ax)
  | .hwPwm => BitVec.ofNat 16 c.pwmDutyOn

/-- `PWM_DUTY_ON` as a duty register holds it. -/
def Cfg.dutyOn (c : Cfg) : Duty := BitVec.ofNat 8 c.pwmDutyOn

end Sys2Proof
end

