-- ==== Sys2Proof/Syntax.lean ====
section
/-! DEFINITION. The instructions: one constructor per row of spec/opcode_table.json. A row of format
BIN7 (30_encoding.md R61) is a binary frame, a row of format TEXT (R69) a text line. No row has an
operand: the reserved bytes and the surrounding whitespace have no effect (R64, R69; log entry 13). -/

namespace Sys2Proof

/-- One received command as its row of the opcode table (30_encoding.md R65, R70). -/
inductive Instr where
  /-- binary code 00 -/
  | stop
  /-- binary code 01 -/
  | stop1
  /-- binary code 02 -/
  | azf
  /-- binary code 04 -/
  | azb
  /-- binary code 08 -/
  | elf
  /-- binary code 10 -/
  | elb
  /-- binary code 0C -/
  | lu
  /-- binary code 0A -/
  | ru
  /-- binary code 14 -/
  | ld
  /-- binary code 12 -/
  | rd
  /-- text token S -/
  | tS
  /-- text token A -/
  | tA
  /-- text token E -/
  | tE
  /-- text token R -/
  | tR
  /-- text token L -/
  | tL
  /-- text token U -/
  | tU
  /-- text token D -/
  | tD
  /-- text token C, and the binary query code `q_az` where `BIN_QUERY` is present (R121) -/
  | tC
  /-- text token B, and the binary query code `q_el` where `BIN_QUERY` is present (R122) -/
  | tB
  /-- text token C2 -/
  | tC2
  deriving DecidableEq, Repr

end Sys2Proof
end

