-- ==== Sys2Proof/WellFormed.lean ====
section
/-! DEFINITION. The checks: which configurations are legal (00_scope.md R5), which byte lists are
well-formed frames (30_encoding.md R61, R62) and which commands `last_cmd` may hold (10_state.md R18).
An `Instr` has no operand, so every `Instr` is well formed. -/

namespace Sys2Proof

/-- The ten mapped codes of 30_encoding.md R65. -/
def mappedCodes : List Byte := [0x00, 0x01, 0x02, 0x04, 0x08, 0x10, 0x0C, 0x0A, 0x14, 0x12]

/-- `CMD_OFFSET` is 3 or 6. -/
def Cfg.offsetOk (c : Cfg) : Bool := c.cmdOffset == 3 || c.cmdOffset == 6

/-- `BIN_QUERY` is absent, or two different unmapped bytes with `CMD_OFFSET` 3 (R5, 30_encoding.md R68). -/
def Cfg.queryOk (c : Cfg) : Bool :=
  match c.binQuery with
  | none => true
  | some (qAz, qEl) =>
    qAz != qEl && !mappedCodes.contains qAz && !mappedCodes.contains qEl && c.cmdOffset == 3

/-- `SPEED_AZ` and `SPEED_EL` are 2 to 65535. -/
def Cfg.speedOk (c : Cfg) : Bool :=
  decide (2 ≤ c.speedAz) && decide (c.speedAz ≤ 65535)
    && decide (2 ≤ c.speedEl) && decide (c.speedEl ≤ 65535)

/-- `PWM_DUTY_ON` is 1 to 255, `PWM_BITS` is 8, `PWM_FREQ_HZ` is positive. -/
def Cfg.pwmOk (c : Cfg) : Bool :=
  decide (1 ≤ c.pwmDutyOn) && decide (c.pwmDutyOn ≤ 255) && c.pwmBits == 8
    && decide (0 < c.pwmFreqHz)

/-- `TICK_MS` is positive, `ANGLE_UNIT` is 0.1 degree, `ANGLE_STEP` is 1, `AZ_MOD` is 3600. -/
def Cfg.tickOk (c : Cfg) : Bool :=
  decide (0 < c.tickMs) && c.angleUnitTenths == 1 && c.angleStep == 1 && c.azMod == 3600

/-- `EL_MIN < EL_MAX`, both 16-bit signed; `AZ_INIT` is 0 to 3599, `EL_INIT` lies between the bounds. -/
def Cfg.rangeOk (c : Cfg) : Bool :=
  decide (c.elMin < c.elMax) && decide (-32768 ≤ c.elMin) && decide (c.elMax ≤ 32767)
    && decide (0 ≤ c.azInit) && decide (c.azInit ≤ 3599)
    && decide (c.elMin ≤ c.elInit) && decide (c.elInit ≤ c.elMax)

/-- The five pins are distinct (20_memory.md R52). -/
def Cfg.pinsOk (c : Cfg) : Bool :=
  decide [c.pins.azDir, c.pins.elDir, c.pins.azPul, c.pins.elPul, c.pins.ind].Nodup

/-- A legal configuration: the "legal values" column of 00_scope.md R5. -/
def Cfg.legal (c : Cfg) : Bool :=
  c.offsetOk && c.queryOk && c.speedOk && c.pwmOk && c.tickOk && c.rangeOk && c.pinsOk

/-- The tag of a frame (30_encoding.md R60). -/
def RawFrame.format : RawFrame → Format
  | .binary _ => .binary
  | .text _ => .text

/-- The bytes of a frame, offset 0 first (20_memory.md R40). -/
def RawFrame.bytes : RawFrame → List Byte
  | .binary b => b
  | .text t => t

/-- A frame the format checks let through: a binary frame of 7 bytes with the sync pattern
(30_encoding.md R62); every text line (40_decoder.md R80). -/
def RawFrame.valid : RawFrame → Bool
  | .binary b => b.length == 7 && b.getD 0 0 == 0xFF && b.getD 1 0 == 0x01
  | .text _ => true

/-- The commands that `last_cmd` may hold (10_state.md R18). -/
def Command.recordable : Command → Bool
  | .stop | .stopAzOnly | .stopElOnly => true
  | .rotateAz _ | .rotateEl _ | .rotateBoth _ _ => true
  | .queryAz | .queryEl | .queryBoth | .unknown _ => false

end Sys2Proof
end

