-- ==== Sys2Proof/Decode.lean ====
section
/-! DEFINITION. The command decoder (40_decoder.md section 1 to 3), total on any frame and rejecting by
name, then the encoder, then the word form of the opcode table. -/

namespace Sys2Proof

/-- The outcome of decoding (00_scope.md R8 `Decoded`): an instruction of the table, a well-formed frame
that maps to no command, or a malformed binary frame with the error it raises and the info of R165. -/
inductive Decoded where
  | instr (i : Instr)
  | unknown (info : UnknownInfo)
  | invalid (e : Error) (info : ErrorInfo)
  deriving DecidableEq, Repr

/-- The format a row's frames have (table column "format"). -/
def Instr.src : Instr → Format
  | .stop | .stop1 | .azf | .azb | .elf | .elb | .lu | .ru | .ld | .rd => .binary
  | .tS | .tA | .tE | .tR | .tL | .tU | .tD | .tC | .tB | .tC2 => .text

/-- The command a row stands for (30_encoding.md R65, R70). -/
def Instr.command : Instr → Command
  | .stop => .stop
  | .stop1 => .stop
  | .azf => .rotateAz .forward
  | .azb => .rotateAz .backward
  | .elf => .rotateEl .forward
  | .elb => .rotateEl .backward
  | .lu => .rotateBoth .backward .forward
  | .ru => .rotateBoth .forward .forward
  | .ld => .rotateBoth .backward .backward
  | .rd => .rotateBoth .forward .backward
  | .tS => .stop
  | .tA => .stopAzOnly
  | .tE => .stopElOnly
  | .tR => .rotateAz .forward
  | .tL => .rotateAz .backward
  | .tU => .rotateEl .forward
  | .tD => .rotateEl .backward
  | .tC => .queryAz
  | .tB => .queryEl
  | .tC2 => .queryBoth

/-- The spec's `Cmd(c)` (00_scope.md R8): the command decoded, `none` for `Invalid`. -/
def Decoded.command? : Decoded → Option Command
  | .instr i => some i.command
  | .unknown info => some (.unknown info)
  | .invalid _ _ => none

/-- `MemRead(i, 1)`, written `b[i]` (20_memory.md R41). The decoder reads only below the length, so the
value past it is never seen. -/
def memRead (b : List Byte) (i : Nat) : Byte := b.getD i 0

/-- The binary command map (30_encoding.md R65). -/
def codeTable : List (Byte × Instr) :=
  [(0x00, .stop), (0x01, .stop1), (0x02, .azf), (0x04, .azb), (0x08, .elf), (0x10, .elb),
   (0x0C, .lu), (0x0A, .ru), (0x14, .ld), (0x12, .rd)]

/-- The token map (30_encoding.md R70). -/
def tokenTable : List (List Byte × Instr) :=
  [([0x53], .tS), ([0x41], .tA), ([0x45], .tE), ([0x52], .tR), ([0x4C], .tL), ([0x55], .tU),
   ([0x44], .tD), ([0x43], .tC), ([0x42], .tB), ([0x43, 0x32], .tC2)]

/-- The query a code marks where `BIN_QUERY` is present (30_encoding.md R68). DEDUCED (log entry 11): a
binary query is the text query's instruction, since the two have the same effect (R121, R122). -/
def queryCode (c : Cfg) (code : Byte) : Option Instr :=
  match c.binQuery with
  | none => none
  | some (qAz, qEl) => if code = qAz then some .tC else if code = qEl then some .tB else none

/-- The lookup of a code byte: the query markers first, then the table, exact match (40_decoder.md R83). -/
def decodeCode (c : Cfg) (code : Byte) : Decoded :=
  match queryCode c code with
  | some i => .instr i
  | none =>
    match codeTable.lookup code with
    | some i => .instr i
    | none => .unknown (.code code)

/-- `DecodeBinary` (40_decoder.md R81 to R83): length, then sync, then the code at `CMD_OFFSET`. -/
def decodeBinary (c : Cfg) (b : List Byte) : Decoded :=
  if b.length ≠ 7 then .invalid .frameTooShort (.length b.length)
  else if memRead b 0 ≠ 0xFF ∨ memRead b 1 ≠ 0x01 then
    .invalid .badSyncBytes (.syncBytes (memRead b 0) (memRead b 1))
  else decodeCode c (memRead b c.cmdOffset)

/-- The whitespace bytes of 30_encoding.md R69. PRESUMED (the spec's G1, log entry 15): the C `isspace`
set. -/
def isSpace (b : Byte) : Bool :=
  b == 0x20 || b == 0x09 || b == 0x0A || b == 0x0B || b == 0x0C || b == 0x0D

/-- `Trim` (40_decoder.md R84): the longest whitespace prefix and suffix removed. -/
def trim (t : List Byte) : List Byte :=
  ((t.dropWhile isSpace).reverse.dropWhile isSpace).reverse

/-- `DecodeText` (40_decoder.md R85): the whole trimmed token, byte for byte. -/
def decodeText (t : List Byte) : Decoded :=
  match tokenTable.lookup (trim t) with
  | some i => .instr i
  | none => .unknown (.token (trim t))

/-- `Decode` (40_decoder.md R86): by the transport's tag; reads the frame and `Cfg` only (R87). -/
def decode (c : Cfg) : RawFrame → Decoded
  | .binary b => decodeBinary c b
  | .text t => decodeText t

/-- What a sender may put where the decoder looks at nothing: the four bytes of a binary frame other
than sync and code, in order (30_encoding.md R64), and the whitespace around a text token (R69). -/
structure Slack where
  r1 : Byte
  r2 : Byte
  r3 : Byte
  r4 : Byte
  lead : List Byte
  trail : List Byte
  deriving DecidableEq, Repr

/-- The slack a sender should use: zero bytes (30_encoding.md R64), no whitespace. -/
def Slack.zero : Slack := { r1 := 0, r2 := 0, r3 := 0, r4 := 0, lead := [], trail := [] }

/-- What surrounds a token is whitespace. -/
def Slack.wf (k : Slack) : Bool := k.lead.all isSpace && k.trail.all isSpace

/-- The bytes that name an instruction: the code of a binary row, the token of a text row (opcode table,
"code" and "token"). -/
def Instr.opcode : Instr → List Byte
  | .stop => [0x00]
  | .stop1 => [0x01]
  | .azf => [0x02]
  | .azb => [0x04]
  | .elf => [0x08]
  | .elb => [0x10]
  | .lu => [0x0C]
  | .ru => [0x0A]
  | .ld => [0x14]
  | .rd => [0x12]
  | .tS => [0x53]
  | .tA => [0x41]
  | .tE => [0x45]
  | .tR => [0x52]
  | .tL => [0x4C]
  | .tU => [0x55]
  | .tD => [0x44]
  | .tC => [0x43]
  | .tB => [0x42]
  | .tC2 => [0x43, 0x32]

/-- A binary frame with a code byte at `CMD_OFFSET` (30_encoding.md R61) and the four other bytes free. -/
def binaryFrame (c : Cfg) (k : Slack) (code : Byte) : List Byte :=
  if c.cmdOffset = 6 then [0xFF, 0x01, k.r1, k.r2, k.r3, k.r4, code]
  else [0xFF, 0x01, k.r1, code, k.r2, k.r3, k.r4]

/-- The frame of an instruction, with any bytes where the decoder looks at nothing. -/
def encodeWith (c : Cfg) (k : Slack) (i : Instr) : RawFrame :=
  match i.src with
  | .binary => .binary (binaryFrame c k (i.opcode.headD 0))
  | .text => .text (k.lead ++ i.opcode ++ k.trail)

/-- The frame a sender should send (30_encoding.md R64, R73). -/
def encode (i : Instr) : RawFrame := encodeWith Cfg.fixed Slack.zero i

/-- The bytes of an `n`-byte word, most significant first: `b[0]` is `W[55:48]` (00_scope.md R6). -/
def bytesOfWord : Nat → Nat → List Byte
  | 0, _ => []
  | n + 1, w => BitVec.ofNat 8 (w / 256 ^ n) :: bytesOfWord n w

/-- The word of a byte list, the first byte most significant (00_scope.md R6). -/
def wordOfBytes (b : List Byte) : Nat := b.foldl (fun w x => 256 * w + x.toNat) 0

/-- The frame whose bits are the table's word `w`: 56 bits are a binary frame, any other width a text
line. DEDUCED (log entry 9) from the table's columns "format", "match" and "width_bits". -/
def frameOfWord (nbits w : Nat) : RawFrame :=
  if nbits = 56 then .binary (bytesOfWord 7 w) else .text (bytesOfWord (nbits / 8) w)

/-- The instruction that the decoder reads from the table's word `w` of `nbits` bits. -/
def decodeTableWord (nbits w : Nat) : Option Instr :=
  match decode Cfg.fixed (frameOfWord nbits w) with
  | .instr i => some i
  | .unknown _ => none
  | .invalid _ _ => none

/-- An instruction as the table writes it: how many bits, and the word with the ignored bits zero. -/
def encodeTableWord (i : Instr) : Nat × Nat :=
  match encode i with
  | .binary b => (8 * b.length, wordOfBytes b)
  | .text t => (8 * t.length, wordOfBytes t)

end Sys2Proof
end

