-- ==== Sys2Proof/Machine/State.lean ====
section
/-! DEFINITION. The state of the block as plain data (10_state.md R10), the outcomes of a step that are not
a next state, and the reset state (10_state.md R29). -/

namespace Sys2Proof.Machine

/-- The level of an output pin: `HIGH` = 1, `LOW` = 0 (00_scope.md R7). -/
inductive Level where
  | low
  | high
  deriving DecidableEq, Repr

/-- The five output pins (10_state.md R19, 20_memory.md R52). -/
inductive PinId where
  | azDir
  | elDir
  | azPul
  | elPul
  | ind
  deriving DecidableEq, Repr

/-- The loop phases, the block's program counter (10_state.md R22). -/
inductive Phase where
  | poll
  | pulse
  | tick
  | status
  deriving DecidableEq, Repr

/-- One axis's register group (10_state.md R12 to R16). -/
structure AxisState where
  direction : Dir
  enabled : Bool
  speedParam : Speed
  angle : Angle
  deriving DecidableEq, Repr

/-- The output pin registers (10_state.md R19). -/
structure Pins where
  azDir : Level
  elDir : Level
  azPul : Level
  elPul : Level
  ind : Level
  deriving DecidableEq, Repr

/-- The two PWM duty registers (10_state.md R20). -/
structure Duties where
  az : Duty
  el : Duty
  deriving DecidableEq, Repr

/-- The output events (10_state.md R28, 00_scope.md R7). A response line is its ASCII bytes without the
newline that follows it (log entry 19). -/
inductive Event where
  | pinWrite (p : PinId) (v : Level)
  | dutyWrite (ax : Axis) (d : Duty)
  | delay (us : Nat)
  | resp (line : List Byte)
  | diag (e : Error) (info : ErrorInfo)
  deriving DecidableEq, Repr

/-- What one POLL phase samples (10_state.md R28): `rx` and `disc`. -/
structure PollInput where
  rx : Option RawFrame
  disc : Bool
  deriving DecidableEq, Repr

/-- What may fall between two atomic steps (10_state.md R28): `tick_fire` and `reset`. -/
inductive AsyncEvent where
  | tickFire
  | reset
  deriving DecidableEq, Repr

/-- No fault exists: "A model needs no fault state for the four errors: none of them stops the block"
(60_exceptions.md R171; log entry 21). Safe: no run ends here. -/
inductive Fault where
  deriving DecidableEq, Repr

/-- Why a step has no meaning. -/
inductive Refusal where
  /-- Raised by `exec`'s arm of an instruction that has no meaning yet; no arm is one. Safe: it stops. -/
  | notModelled (mnemonic : String)
  /-- Raised by `step` where `Cfg` is outside the legal values: "A `Cfg` outside the legal values is refused
  by the model (no meaning is given)" (00_scope.md R5). Safe: it stops. -/
  | illegalConfig
  deriving DecidableEq, Repr

/-- `ControllerState` (10_state.md R10), with the configuration, the output trace and the inputs to come. -/
structure State where
  /-- `Cfg` (00_scope.md R5): constant from reset onward; held here so that it can be any value (log entry 1) -/
  cfg : Cfg
  /-- the azimuth group (R12) -/
  az : AxisState
  /-- the elevation group (R12) -/
  el : AxisState
  /-- `last_cmd` (R18) -/
  lastCmd : Option Command
  /-- the pin registers (R19) -/
  pin : Pins
  /-- the duty registers (R20) -/
  duty : Duties
  /-- `tick_pending` (R21) -/
  tickPending : Bool
  /-- `phase` (R22) -/
  phase : Phase
  /-- `frame_buf` (R23) -/
  frameBuf : Option RawFrame
  /-- the output trace (R28), oldest first; no rule reads it (log entry 6) -/
  trace : List Event
  /-- the model's own: what the POLL phases to come sample, one entry each; past its end nothing arrives
  (log entry 4) -/
  polls : List PollInput
  /-- the model's own: what falls before each step to come, one entry each; past its end nothing does
  (log entry 4) -/
  async : List (List AsyncEvent)
  deriving DecidableEq, Repr

/-- An axis group after reset (10_state.md R29). -/
def AxisState.atReset (speed : Speed) (angle : Int) : AxisState :=
  { direction := .backward, enabled := false, speedParam := speed, angle := BitVec.ofInt 16 angle }

/-- The state after reset under a configuration (10_state.md R29, 70_reset_and_hazards.md R190). -/
def State.resetWith (c : Cfg) : State :=
  { cfg := c
    az := AxisState.atReset (c.speedParam .az) c.azInit
    el := AxisState.atReset (c.speedParam .el) c.elInit
    lastCmd := none
    pin := { azDir := .low, elDir := .low, azPul := .low, elPul := .low, ind := .low }
    duty := { az := 0, el := 0 }
    tickPending := false
    phase := .poll
    frameBuf := none
    trace := []
    polls := []
    async := [] }

/-- The machine right after reset, with `Cfg.fixed` (log entry 1). -/
def State.reset : State := State.resetWith Cfg.fixed

end Sys2Proof.Machine
end

