-- ==== Sys2Proof/Machine/Operands.lean ====
section
/-! DEFINITION. The values commands and phases compute: levels, half periods, angle steps, whole degrees,
spellings and the canonical codes of the echo. -/

namespace Sys2Proof.Machine

/-- The level of a direction pin, `HIGH` = forward, `LOW` = backward (10_state.md R13, R19). -/
def dirLevel : Dir → Level
  | .forward => .high
  | .backward => .low

/-- The direction pin of an axis. -/
def dirPin : Axis → PinId
  | .az => .azDir
  | .el => .elDir

/-- The pulse pin of an axis. -/
def pulPin : Axis → PinId
  | .az => .azPul
  | .el => .elPul

/-- `half(s) = s div 2`, microseconds (43_pulse_generation.md R136). -/
def half (s : Speed) : Nat := s.toNat / 2

/-- `clamp(v, lo, hi)` (00_scope.md R7). -/
def clamp (v lo hi : Int) : Int := if v < lo then lo else if hi < v then hi else v

/-- The signed step of one angle tick (44_angle_accumulator.md R152, R153). -/
def angleStep (c : Cfg) : Dir → Int
  | .forward => c.angleStep
  | .backward => -c.angleStep

/-- The next azimuth angle: wrap-around into `0 .. AZ_MOD - 1` (44_angle_accumulator.md R152). -/
def azNext (c : Cfg) (d : Dir) (a : Angle) : Angle :=
  BitVec.ofInt 16 ((a.toInt + angleStep c d) % (c.azMod : Int))

/-- The next elevation angle: clamped into `EL_MIN .. EL_MAX` (44_angle_accumulator.md R153). -/
def elNext (c : Cfg) (d : Dir) (a : Angle) : Angle :=
  BitVec.ofInt 16 (clamp (a.toInt + angleStep c d) c.elMin c.elMax)

/-- `deg(a)`: counts to whole degrees, to nearest, a tie away from zero (42_query_commands.md R120). -/
def deg (a : Int) : Int := if 0 ≤ a then (a + 5) / 10 else -((-a + 5) / 10)

/-- The ASCII byte of a decimal digit. -/
def decDigit (n : Nat) : Byte := BitVec.ofNat 8 (0x30 + n)

/-- The decimal digits of `n`, most significant first; `fuel` bounds how many. -/
def decDigits : Nat → Nat → List Byte
  | 0, n => [decDigit (n % 10)]
  | fuel + 1, n => if n < 10 then [decDigit n] else decDigits fuel (n / 10) ++ [decDigit (n % 10)]

/-- `dec(n)` (00_scope.md R7): no leading zeros, no plus sign, `-` (2D) for a negative value. -/
def dec (n : Int) : List Byte :=
  if n < 0 then 0x2D :: decDigits n.natAbs n.natAbs else decDigits n.natAbs n.natAbs

/-- The ASCII byte of a hexadecimal digit, upper case. -/
def hexDigit (n : Nat) : Byte :=
  if n < 10 then BitVec.ofNat 8 (0x30 + n) else BitVec.ofNat 8 (0x41 + (n - 10))

/-- `hex4(n)` (00_scope.md R7): four digits, most significant first, zero-padded. -/
def hex4 (n : Nat) : List Byte :=
  [hexDigit (n / 4096 % 16), hexDigit (n / 256 % 16), hexDigit (n / 16 % 16), hexDigit (n % 16)]

/-- `code_of(c)`, the canonical code of a motion command, a partial stop having the stop code
(41_motion_commands.md R104); a query or an unknown has none. -/
def codeOf : Command → Option Nat
  | .stop | .stopAzOnly | .stopElOnly => some 0x00
  | .rotateAz .forward => some 0x02
  | .rotateAz .backward => some 0x04
  | .rotateEl .forward => some 0x08
  | .rotateEl .backward => some 0x10
  | .rotateBoth .backward .forward => some 0x0C
  | .rotateBoth .forward .forward => some 0x0A
  | .rotateBoth .backward .backward => some 0x14
  | .rotateBoth .forward .backward => some 0x12
  | .queryAz | .queryEl | .queryBoth | .unknown _ => none

/-- The echo line of a code, `hex4(c) ++ "."` (30_encoding.md R75). -/
def echoLine (n : Nat) : List Byte := hex4 n ++ [0x2E]

/-- The reply `"AZ=" ++ dec(deg(a))` (42_query_commands.md R121). -/
def azLine (a : Angle) : List Byte := [0x41, 0x5A, 0x3D] ++ dec (deg a.toInt)

/-- The reply `"EL=" ++ dec(deg(a))` (42_query_commands.md R122). -/
def elLine (a : Angle) : List Byte := [0x45, 0x4C, 0x3D] ++ dec (deg a.toInt)

/-- The number of an error (60_exceptions.md R165). -/
def errorCode : Error → Nat
  | .frameTooShort => 1
  | .badSyncBytes => 2
  | .unknownCommandCode => 3
  | .transportDisconnected => 4

end Sys2Proof.Machine
end

