-- ==== Sys2Proof/Machine/Flags.lean ====
section
/-! DEFINITION. The derived flags: the three axis states (10_state.md R17), `any_active` (R24) and the
waveform of a pulse pin (43_pulse_generation.md R139). There are no condition codes. -/

namespace Sys2Proof.Machine

/-- The states of one axis (10_state.md R17). -/
inductive AxisMode where
  | idle
  | runningForward
  | runningBackward
  deriving DecidableEq, Repr

/-- `axis_state(ax)`: a function of `enabled` and `direction` (10_state.md R17). -/
def AxisState.mode (a : AxisState) : AxisMode :=
  if a.enabled then
    match a.direction with
    | .forward => .runningForward
    | .backward => .runningBackward
  else .idle

/-- `any_active` (10_state.md R24). -/
def anyActive (s : State) : Bool := s.az.enabled || s.el.enabled

/-- The indicator level: `HIGH` when any axis is active (41_motion_commands.md R103). -/
def indLevel (s : State) : Level := if anyActive s then .high else .low

/-- What a pulse pin shows: a level, or a PWM carrier high for `highParts` of `outOf` parts of each
period (43_pulse_generation.md R139). -/
inductive PulseOutput where
  | level (v : Level)
  | carrier (highParts outOf freqHz : Nat)
  deriving DecidableEq, Repr

/-- The duty register of an axis. -/
def State.dutyOf (s : State) : Axis → Duty
  | .az => s.duty.az
  | .el => s.duty.el

/-- The level held in a pin register. -/
def State.pinOf (s : State) : PinId → Level
  | .azDir => s.pin.azDir
  | .elDir => s.pin.elDir
  | .azPul => s.pin.azPul
  | .elPul => s.pin.elPul
  | .ind => s.pin.ind

/-- The observable output on a pulse pin: its register under `BusyWait` (10_state.md R19), the PWM channel
of its duty register under `HwPwm` (43_pulse_generation.md R139; PRESUMED divisor `2 ^ PWM_BITS`, the
spec's G2, log entry 15). -/
def pulseOutput (ax : Axis) (s : State) : PulseOutput :=
  match s.cfg.strategy with
  | .busyWait => .level (s.pinOf (pulPin ax))
  | .hwPwm => .carrier (s.dutyOf ax).toNat (2 ^ s.cfg.pwmBits) s.cfg.pwmFreqHz

/-- Step pulses per second on a carrier: one per period, none at duty 0 (43_pulse_generation.md R139). -/
def carrierStepRate (ax : Axis) (s : State) : Nat :=
  if s.dutyOf ax = 0 then 0 else s.cfg.pwmFreqHz

end Sys2Proof.Machine
end

