-- ==== Sys2Proof/Machine/Ops.lean ====
section
/-! DEFINITION. The named operations over the registers and the trace, the helpers of 41_motion_commands.md
section 1, the duplicate check of 40_decoder.md section 4, raising an error (60_exceptions.md R170) and
the events that fall between steps. -/

namespace Sys2Proof.Machine

/-- Read of an axis group, `ax` in 00_scope.md R7. -/
def State.axis (s : State) : Axis → AxisState
  | .az => s.az
  | .el => s.el

/-- Write of an axis group. -/
def State.setAxis (s : State) (ax : Axis) (a : AxisState) : State :=
  match ax with
  | .az => { s with az := a }
  | .el => { s with el := a }

/-- `ax.direction <- d` (00_scope.md R7). -/
def State.setDirection (s : State) (ax : Axis) (d : Dir) : State :=
  s.setAxis ax { s.axis ax with direction := d }

/-- `ax.enabled <- b`. -/
def State.setEnabled (s : State) (ax : Axis) (b : Bool) : State :=
  s.setAxis ax { s.axis ax with enabled := b }

/-- `ax.angle <- a`. -/
def State.setAngle (s : State) (ax : Axis) (a : Angle) : State :=
  s.setAxis ax { s.axis ax with angle := a }

/-- `last_cmd <- some c`. -/
def State.setLastCmd (s : State) (c : Command) : State := { s with lastCmd := some c }

/-- `tick_pending <- b`. -/
def State.setTickPending (s : State) (b : Bool) : State := { s with tickPending := b }

/-- `phase <- p` (00_scope.md R7). -/
def State.setPhase (s : State) (p : Phase) : State := { s with phase := p }

/-- The transport fills the frame buffer (20_memory.md R40, R42). -/
def State.setFrameBuf (s : State) (f : RawFrame) : State := { s with frameBuf := some f }

/-- Append an event to the output trace (10_state.md R28). -/
def State.log (s : State) (e : Event) : State := { s with trace := s.trace ++ [e] }

/-- The poll inputs to come. -/
def State.setPolls (s : State) (p : List PollInput) : State := { s with polls := p }

/-- The asynchronous events to come. -/
def State.setAsync (s : State) (a : List (List AsyncEvent)) : State := { s with async := a }

/-- The level register of a pin, without the event. -/
def State.setPin (s : State) (p : PinId) (v : Level) : State :=
  match p with
  | .azDir => { s with pin := { s.pin with azDir := v } }
  | .elDir => { s with pin := { s.pin with elDir := v } }
  | .azPul => { s with pin := { s.pin with azPul := v } }
  | .elPul => { s with pin := { s.pin with elPul := v } }
  | .ind => { s with pin := { s.pin with ind := v } }

/-- The duty register of an axis, without the event. -/
def State.setDuty (s : State) (ax : Axis) (d : Duty) : State :=
  match ax with
  | .az => { s with duty := { s.duty with az := d } }
  | .el => { s with duty := { s.duty with el := d } }

/-- `pin[P] <- v`: also when the level does not change (00_scope.md R7). -/
def pinWrite (p : PinId) (v : Level) (s : State) : State := (s.setPin p v).log (.pinWrite p v)

/-- `duty[ax] <- v` (00_scope.md R7). -/
def dutyWrite (ax : Axis) (d : Duty) (s : State) : State := (s.setDuty ax d).log (.dutyWrite ax d)

/-- `delay_us(n)`: changes no state but the trace (00_scope.md R7). -/
def delayUs (n : Nat) (s : State) : State := s.log (.delay n)

/-- `emit Resp(s)` (00_scope.md R7). -/
def emitResp (line : List Byte) (s : State) : State := s.log (.resp line)

/-- `raise e(info)` (60_exceptions.md R170): a diagnostic and nothing else; for a disconnect nothing at all
(R169). The loop goes on; there is nothing to return from (R171). -/
def raiseError (e : Error) (info : ErrorInfo) (s : State) : State :=
  match e with
  | .frameTooShort | .badSyncBytes | .unknownCommandCode => s.log (.diag e info)
  | .transportDisconnected => s

/-- `SetRun(ax, d)` (41_motion_commands.md R101). -/
def setRun (ax : Axis) (d : Dir) (s : State) : State :=
  let s := s.setDirection ax d
  let s := pinWrite (dirPin ax) (dirLevel d) s
  let s := s.setEnabled ax true
  match s.cfg.strategy with
  | .hwPwm => dutyWrite ax s.cfg.dutyOn s
  | .busyWait => s

/-- `SetIdle(ax)` (41_motion_commands.md R102). -/
def setIdle (ax : Axis) (s : State) : State :=
  let s := s.setEnabled ax false
  match s.cfg.strategy with
  | .hwPwm => dutyWrite ax 0 s
  | .busyWait => pinWrite (pulPin ax) .low s

/-- `UpdateInd()` (41_motion_commands.md R103). -/
def updateInd (s : State) : State := pinWrite .ind (indLevel s) s

/-- `Echo(src, c)` (41_motion_commands.md R104). -/
def echo (src : Format) (c : Command) (s : State) : State :=
  match src with
  | .binary => s
  | .text =>
    match codeOf c with
    | some n => emitResp (echoLine n) s
    | none => s

/-- The accept of a motion command other than `Stop` (40_decoder.md R88, R90): a duplicate of `last_cmd` has
no effect at all; any other is applied (giving `applied`) and recorded. -/
def acceptMotion (c : Command) (s applied : State) : State :=
  if s.lastCmd = some c then s else applied.setLastCmd c

/-- Reset (10_state.md R29, 70_reset_and_hazards.md R190): every piece of state at its reset value; `Cfg` is
fixed and the inputs to come are the environment's. -/
def hardReset (s : State) : State :=
  ((State.resetWith s.cfg).setPolls s.polls).setAsync s.async

/-- One event that falls between two atomic steps: a timer expiry sets `tick_pending`
(44_angle_accumulator.md R150), a reset resets. -/
def asyncEvent (s : State) : AsyncEvent → State
  | .tickFire => s.setTickPending true
  | .reset => hardReset s

/-- The events that fall before this step, taken in order. -/
def takeAsync (s : State) : State := (s.async.headD []).foldl asyncEvent (s.setAsync s.async.tail)

end Sys2Proof.Machine
end

