-- ==== Sys2Proof/Machine/Queries.lean ====
section
/-! DEFINITION. The query commands (42_query_commands.md section 2): answered whatever the frame's format,
never suppressed, never recorded. -/

namespace Sys2Proof.Machine

/-- The azimuth reply (R121). -/
def replyAz (s : State) : State := emitResp (azLine s.az.angle) s

/-- The elevation reply (R122). -/
def replyEl (s : State) : State := emitResp (elLine s.el.angle) s

/-- T.C: `QueryAz` (R121). -/
def execTC (s : State) : Host.Outcome State Fault Refusal := .next (replyAz s)

/-- T.B: `QueryEl` (R122). -/
def execTB (s : State) : Host.Outcome State Fault Refusal := .next (replyEl s)

/-- T.C2: `QueryBoth`, two lines, azimuth first (R123). -/
def execTC2 (s : State) : Host.Outcome State Fault Refusal := .next (replyEl (replyAz s))

end Sys2Proof.Machine
end

