-- ==== Sys2Proof/Machine/Rotates.lean ====
section
/-! DEFINITION. The rotate commands (41_motion_commands.md sections 3 and 4), single-axis and two-axis. -/

namespace Sys2Proof.Machine

/-- A single-axis rotate applied (41_motion_commands.md R108 to R111). -/
def applyRotate (src : Format) (c : Command) (ax : Axis) (d : Dir) (s : State) : State :=
  echo src c (updateInd (setRun ax d s))

/-- The accept of `RotateAz(d)`. -/
def acceptRotateAz (src : Format) (d : Dir) (s : State) : State :=
  acceptMotion (.rotateAz d) s (applyRotate src (.rotateAz d) .az d s)

/-- The accept of `RotateEl(d)`. -/
def acceptRotateEl (src : Format) (d : Dir) (s : State) : State :=
  acceptMotion (.rotateEl d) s (applyRotate src (.rotateEl d) .el d s)

/-- `RotateBoth(a, e)` applied: azimuth, then elevation, then the indicator (R112 to R115). -/
def applyRotateBoth (src : Format) (a e : Dir) (s : State) : State :=
  echo src (.rotateBoth a e) (updateInd (setRun .el e (setRun .az a s)))

/-- The accept of `RotateBoth(a, e)`. -/
def acceptRotateBoth (src : Format) (a e : Dir) (s : State) : State :=
  acceptMotion (.rotateBoth a e) s (applyRotateBoth src a e s)

/-- AZF: binary code 02 (R108). -/
def execAzf (s : State) : Host.Outcome State Fault Refusal := .next (acceptRotateAz .binary .forward s)

/-- AZB: binary code 04 (R109). -/
def execAzb (s : State) : Host.Outcome State Fault Refusal := .next (acceptRotateAz .binary .backward s)

/-- ELF: binary code 08 (R110). -/
def execElf (s : State) : Host.Outcome State Fault Refusal := .next (acceptRotateEl .binary .forward s)

/-- ELB: binary code 10 (R111). -/
def execElb (s : State) : Host.Outcome State Fault Refusal := .next (acceptRotateEl .binary .backward s)

/-- LU, left-up: binary code 0C (R112). -/
def execLu (s : State) : Host.Outcome State Fault Refusal :=
  .next (acceptRotateBoth .binary .backward .forward s)

/-- RU, right-up: binary code 0A (R113). -/
def execRu (s : State) : Host.Outcome State Fault Refusal :=
  .next (acceptRotateBoth .binary .forward .forward s)

/-- LD, left-down: binary code 14 (R114). -/
def execLd (s : State) : Host.Outcome State Fault Refusal :=
  .next (acceptRotateBoth .binary .backward .backward s)

/-- RD, right-down: binary code 12 (R115). -/
def execRd (s : State) : Host.Outcome State Fault Refusal :=
  .next (acceptRotateBoth .binary .forward .backward s)

/-- T.R: text token R (R108). -/
def execTR (s : State) : Host.Outcome State Fault Refusal := .next (acceptRotateAz .text .forward s)

/-- T.L: text token L (R109). -/
def execTL (s : State) : Host.Outcome State Fault Refusal := .next (acceptRotateAz .text .backward s)

/-- T.U: text token U (R110). -/
def execTU (s : State) : Host.Outcome State Fault Refusal := .next (acceptRotateEl .text .forward s)

/-- T.D: text token D (R111). -/
def execTD (s : State) : Host.Outcome State Fault Refusal := .next (acceptRotateEl .text .backward s)

end Sys2Proof.Machine
end

