-- ==== Sys2Proof/Machine/Stops.lean ====
section
/-! DEFINITION. The stop commands (41_motion_commands.md section 2): STOP, STOP1, T.S, T.A, T.E. -/

namespace Sys2Proof.Machine

/-- `Stop` applied (41_motion_commands.md R105). -/
def applyStop (src : Format) (s : State) : State :=
  echo src .stop (updateInd (setIdle .el (setIdle .az s)))

/-- `StopAzOnly` applied (R106). -/
def applyStopAzOnly (src : Format) (s : State) : State :=
  echo src .stopAzOnly (updateInd (setIdle .az s))

/-- `StopElOnly` applied (R107). -/
def applyStopElOnly (src : Format) (s : State) : State :=
  echo src .stopElOnly (updateInd (setIdle .el s))

/-- The accept of `Stop`: never suppressed, always recorded (40_decoder.md R89, R90). -/
def acceptStop (src : Format) (s : State) : State := (applyStop src s).setLastCmd .stop

/-- STOP: binary code 00 (R105). -/
def execStop (s : State) : Host.Outcome State Fault Refusal := .next (acceptStop .binary s)

/-- STOP1: binary code 01 (R105). -/
def execStop1 (s : State) : Host.Outcome State Fault Refusal := .next (acceptStop .binary s)

/-- T.S: text token S (R105). -/
def execTS (s : State) : Host.Outcome State Fault Refusal := .next (acceptStop .text s)

/-- T.A: text token A (R106), subject to the duplicate check. -/
def execTA (s : State) : Host.Outcome State Fault Refusal :=
  .next (acceptMotion .stopAzOnly s (applyStopAzOnly .text s))

/-- T.E: text token E (R107), subject to the duplicate check. -/
def execTE (s : State) : Host.Outcome State Fault Refusal :=
  .next (acceptMotion .stopElOnly s (applyStopElOnly .text s))

end Sys2Proof.Machine
end

