-- ==== Sys2Proof/Machine/Dispatch.lean ====
section
/-! DEFINITION. One arm per instruction: the part of `Accept` (40_decoder.md R90) that follows a decode to it. -/

namespace Sys2Proof.Machine

def exec (i : Instr) (s : State) : Host.Outcome State Fault Refusal :=
  match i with
  | .stop => Sys2Proof.Machine.execStop s
  | .stop1 => Sys2Proof.Machine.execStop1 s
  | .azf => Sys2Proof.Machine.execAzf s
  | .azb => Sys2Proof.Machine.execAzb s
  | .elf => Sys2Proof.Machine.execElf s
  | .elb => Sys2Proof.Machine.execElb s
  | .lu => Sys2Proof.Machine.execLu s
  | .ru => Sys2Proof.Machine.execRu s
  | .ld => Sys2Proof.Machine.execLd s
  | .rd => Sys2Proof.Machine.execRd s
  | .tS => Sys2Proof.Machine.execTS s
  | .tA => Sys2Proof.Machine.execTA s
  | .tE => Sys2Proof.Machine.execTE s
  | .tR => Sys2Proof.Machine.execTR s
  | .tL => Sys2Proof.Machine.execTL s
  | .tU => Sys2Proof.Machine.execTU s
  | .tD => Sys2Proof.Machine.execTD s
  | .tC => Sys2Proof.Machine.execTC s
  | .tB => Sys2Proof.Machine.execTB s
  | .tC2 => Sys2Proof.Machine.execTC2 s

end Sys2Proof.Machine
end

