-- ==== Sys2Proof/Machine/Loop.lean ====
section
/-! DEFINITION. The four phases of the control loop (43_pulse_generation.md, 44_angle_accumulator.md) and a
whole iteration as one function (R144). -/

namespace Sys2Proof.Machine

/-- `BusyWaitPulse(ax)` (43_pulse_generation.md R135). -/
def busyWaitPulse (ax : Axis) (s : State) : State :=
  if (s.axis ax).enabled then
    let h := half (s.axis ax).speedParam
    delayUs h (pinWrite (pulPin ax) .low (delayUs h (pinWrite (pulPin ax) .high s)))
  else s

/-- `PwmRefresh(ax)` (R138). -/
def pwmRefresh (ax : Axis) (s : State) : State :=
  dutyWrite ax (if (s.axis ax).enabled then s.cfg.dutyOn else 0) s

/-- `PulseAxis(ax)` (R132): the body that `STRATEGY` selects (R140). -/
def pulseAxis (ax : Axis) (s : State) : State :=
  match s.cfg.strategy with
  | .busyWait => busyWaitPulse ax s
  | .hwPwm => pwmRefresh ax s

/-- The PULSE phase (R132): azimuth, then elevation. -/
def pulsePhase (s : State) : State := (pulseAxis .el (pulseAxis .az s)).setPhase .tick

/-- `AngleUpdate(AZ)` (44_angle_accumulator.md R152). -/
def angleUpdateAz (s : State) : State :=
  if s.az.enabled then s.setAngle .az (azNext s.cfg s.az.direction s.az.angle) else s

/-- `AngleUpdate(EL)` (R153). -/
def angleUpdateEl (s : State) : State :=
  if s.el.enabled then s.setAngle .el (elNext s.cfg s.el.direction s.el.angle) else s

/-- The TICK phase (R151). -/
def tickPhase (s : State) : State :=
  let s := if s.tickPending then angleUpdateEl (angleUpdateAz (s.setTickPending false)) else s
  s.setPhase .status

/-- The STATUS phase (43_pulse_generation.md R133). -/
def statusPhase (s : State) : State := s.setPhase .poll

/-- An outcome with the phase of its next state set. -/
def thenPhase (p : Phase) : Host.Outcome State Fault Refusal → Host.Outcome State Fault Refusal
  | .next s => .next (s.setPhase p)
  | .fault r => .fault r
  | .refused r => .refused r

/-- `Accept(f)` (40_decoder.md R90): decode with the frame and `Cfg` alone (R87), then run the instruction or
raise the error. -/
def acceptFrame (f : RawFrame) (s : State) : Host.Outcome State Fault Refusal :=
  match decode s.cfg f with
  | .instr i => exec i s
  | .unknown info => .next (raiseError .unknownCommandCode (.unknown info) s)
  | .invalid e info => .next (raiseError e info s)

/-- The POLL phase (43_pulse_generation.md R131): a disconnect is handled instead of the frame; a frame taken
fills the buffer and is accepted. -/
def pollPhase (rx : Option RawFrame) (disc : Bool) (s : State) : Host.Outcome State Fault Refusal :=
  if disc then .next ((raiseError .transportDisconnected .none s).setPhase .pulse)
  else
    match rx with
    | none => .next (s.setPhase .pulse)
    | some f => thenPhase .pulse (acceptFrame f (s.setFrameBuf f))

/-- What the next POLL phase samples: the head of `polls`, or nothing (70_reset_and_hazards.md R205). -/
def nextPoll (s : State) : PollInput := s.polls.headD { rx := none, disc := false }

/-- The POLL phase on the next input, which is used up. -/
def runPoll (s : State) : Host.Outcome State Fault Refusal :=
  pollPhase (nextPoll s).rx (nextPoll s).disc (s.setPolls s.polls.tail)

/-- The phase that `phase` names. -/
def runPhase (s : State) : Host.Outcome State Fault Refusal :=
  match s.phase with
  | .poll => runPoll s
  | .pulse => .next (pulsePhase s)
  | .tick => .next (tickPhase s)
  | .status => .next (statusPhase s)

/-- `Iteration(rx, disc, fires)` (43_pulse_generation.md R144). -/
def iteration (rx : Option RawFrame) (disc : Bool) (fires : Nat) (s : State) :
    Host.Outcome State Fault Refusal :=
  match pollPhase rx disc s with
  | .next s =>
    let s := pulsePhase s
    let s := if 1 ≤ fires then s.setTickPending true else s
    .next (statusPhase (tickPhase s))
  | .fault r => .fault r
  | .refused r => .refused r

/-- The input that makes `f` available to a POLL phase. -/
def offering (f : RawFrame) : PollInput := { rx := some f, disc := false }

end Sys2Proof.Machine
end

