-- ==== Sys2Proof/Machine/Step.lean ====
section
/-! DEFINITION. One step: the events that fall before it, then one phase of the loop (10_state.md R22; log
entry 5). -/

namespace Sys2Proof.Machine

/-- One step. A configuration outside the legal values has no meaning (00_scope.md R5). -/
def step (s : State) : Host.Outcome State Fault Refusal :=
  if s.cfg.legal then runPhase (takeAsync s) else .refused .illegalConfig

/-- `s` at a POLL phase whose sample is the frame of the table's word `w` (log entry 10). -/
def State.withFetchWord (s : State) (nbits w : Nat) : State :=
  (s.setPolls (offering (frameOfWord nbits w) :: s.polls.tail)).setPhase .poll

end Sys2Proof.Machine
end

