-- ==== Sys2Proof/Machine/FrameBuffer.lean ====
section
/-! DEFINITION. The frame buffer as addressed memory: the block's only indexed store (20_memory.md R40), seen
as rising address and byte pairs. There is no other memory (log entry 25). -/

namespace Sys2Proof.Machine

/-- The bytes from offset `n` on, each with its offset. -/
def cellsFrom : Nat → List Byte → List Host.Cell
  | _, [] => []
  | n, b :: bs => (n, b) :: cellsFrom (n + 1) bs

/-- The bytes of the frame buffer, empty when it holds no frame. -/
def bufferBytes (s : State) : List Byte :=
  match s.frameBuf with
  | none => []
  | some f => f.bytes

/-- The frame buffer as address and byte pairs. -/
def bufferCells (s : State) : List Host.Cell := cellsFrom 0 (bufferBytes s)

/-- The canonical form of a list of cells: addresses strictly rising. Nothing lies at an unlisted offset, so
no entry can equal what one reads as. -/
def Memory.wf : List Host.Cell → Bool
  | [] => true
  | [_] => true
  | (a, _) :: (a', y) :: rest => decide (a < a') && Memory.wf ((a', y) :: rest)

/-- The byte at an offset of the frame buffer; nothing past the length (20_memory.md R41). -/
def readByte (s : State) (i : Nat) : Option Byte := (bufferBytes s)[i]?

end Sys2Proof.Machine
end

