-- ==== Sys2Proof/Safety.lean ====
section
/-! DEFINITION. What holds between two atomic steps (10_state.md R25 and the rules beside it), what a run is
(70_reset_and_hazards.md R204), and the counts that claims speak of. -/

namespace Sys2Proof.Machine

/-- R25(a): each direction pin shows its axis's direction. -/
abbrev State.dirPinsOk (s : State) : Prop :=
  s.pin.azDir = dirLevel s.az.direction ∧ s.pin.elDir = dirLevel s.el.direction

/-- The duty an axis should show under `HwPwm`. -/
def dutyFor (c : Cfg) (a : AxisState) : Duty := if a.enabled then c.dutyOn else 0

/-- R25(b), and R20 "under `BusyWait` they stay 0". -/
abbrev State.dutiesOk (s : State) : Prop :=
  (s.cfg.strategy = .hwPwm → s.duty.az = dutyFor s.cfg s.az ∧ s.duty.el = dutyFor s.cfg s.el) ∧
  (s.cfg.strategy = .busyWait → s.duty.az = 0 ∧ s.duty.el = 0)

/-- R25(c): the indicator shows "any axis active". -/
abbrev State.indOk (s : State) : Prop := s.pin.ind = indLevel s

/-- R25(d): under `BusyWait` both pulse pins are LOW between atomic steps. -/
abbrev State.pulsesLow (s : State) : Prop :=
  s.cfg.strategy = .busyWait → s.pin.azPul = .low ∧ s.pin.elPul = .low

/-- R25(e), R16: the ranges of the two angles. -/
abbrev State.anglesOk (s : State) : Prop :=
  0 ≤ s.az.angle.toInt ∧ s.az.angle.toInt ≤ 3599 ∧
  s.cfg.elMin ≤ s.el.angle.toInt ∧ s.el.angle.toInt ≤ s.cfg.elMax

/-- R15: `speedParam` is the constant of `Cfg`. -/
abbrev State.speedsOk (s : State) : Prop :=
  s.az.speedParam = s.cfg.speedParam .az ∧ s.el.speedParam = s.cfg.speedParam .el

/-- An axis runs in direction `d`. -/
def AxisState.runs (a : AxisState) (d : Dir) : Bool := a.enabled && a.direction == d

/-- The axes are as command `c` left them; false of a command that is never recorded (10_state.md R18). -/
def State.reflects (s : State) : Command → Bool
  | .stop => !s.az.enabled && !s.el.enabled
  | .stopAzOnly => !s.az.enabled
  | .stopElOnly => !s.el.enabled
  | .rotateAz d => s.az.runs d
  | .rotateEl d => s.el.runs d
  | .rotateBoth a e => s.az.runs a && s.el.runs e
  | .queryAz | .queryEl | .queryBoth | .unknown _ => false

/-- R18, R91, R92: `last_cmd` is none and nothing runs, or it is a recordable command the axes still show. -/
def State.lastCmdOk (s : State) : Bool :=
  match s.lastCmd with
  | none => !s.az.enabled && !s.el.enabled
  | some c => s.reflects c

/-- The invariant of the block: a legal configuration and 10_state.md R25 with R15, R18 and R20. -/
abbrev State.Inv (s : State) : Prop :=
  s.cfg.legal = true ∧ s.dirPinsOk ∧ s.dutiesOk ∧ s.indOk ∧ s.pulsesLow ∧ s.anglesOk ∧ s.speedsOk ∧
  s.lastCmdOk = true

/-- No reset falls before this step. -/
abbrev State.noResetNow (s : State) : Prop := AsyncEvent.reset ∉ s.async.headD []

/-- No reset is among the events to come. -/
abbrev State.noReset (s : State) : Prop := ∀ evs ∈ s.async, AsyncEvent.reset ∉ evs

/-- `k` steps, stopping where a step has no next state: `Host.Core.run` of this machine. -/
def runSteps : Nat → State → Host.Outcome State Fault Refusal
  | 0, s => .next s
  | k + 1, s =>
    match step s with
    | .next t => runSteps k t
    | .fault r => .fault r
    | .refused r => .refused r

/-- The inputs of one iteration (43_pulse_generation.md R144). -/
structure IterInput where
  rx : Option RawFrame
  disc : Bool
  fires : Nat
  deriving DecidableEq, Repr

/-- A run (70_reset_and_hazards.md R204): a finite list of iterations. -/
def runIterations : List IterInput → State → Host.Outcome State Fault Refusal
  | [], s => .next s
  | i :: is, s =>
    match iteration i.rx i.disc i.fires s with
    | .next t => runIterations is t
    | .fault r => .fault r
    | .refused r => .refused r

/-- The poll inputs of a list of iterations. -/
def pollsOf (is : List IterInput) : List PollInput := is.map fun i => { rx := i.rx, disc := i.disc }

/-- The events before each of the four steps of each iteration, the timer expiring before TICK. -/
def asyncOf : List IterInput → List (List AsyncEvent)
  | [] => []
  | i :: is => [] :: [] :: List.replicate i.fires .tickFire :: [] :: asyncOf is

/-- Step pulses sent on an axis: rising edges of its pulse pin in a trace. -/
def risingEdges (ax : Axis) (tr : List Event) : Nat := tr.count (.pinWrite (pulPin ax) .high)

/-- The number of the next `k` steps that are PULSE phases at which `ax` is enabled. -/
def pulsesDue (ax : Axis) : Nat → State → Nat
  | 0, _ => 0
  | k + 1, s =>
    (if s.phase = .pulse ∧ (s.axis ax).enabled = true then 1 else 0) +
      match step s with
      | .next t => pulsesDue ax k t
      | .fault _ => 0
      | .refused _ => 0

end Sys2Proof.Machine
end

