-- ==== Sys2Proof/Certificates/Slice0/Obligations.lean ====
section
/-! DEFINITION. The statements for the provers. Next states are written out as records, so that a statement
says what an instruction changes and, with it, all it leaves unchanged. -/

namespace Sys2Proof.Claims

open Sys2Proof.Machine

/-- `f` is a valid binary frame whose command code is `code`, whatever its reserved bytes (30_encoding.md
R61 to R64). -/
def FrameHas (c : Cfg) (code : Byte) (f : RawFrame) : Prop :=
  ∃ b : List Byte, f = .binary b ∧ b.length = 7 ∧ b[0]? = some 0xFF ∧ b[1]? = some 0x01 ∧
    b[c.cmdOffset]? = some code

/-- `f` is a text line that is the token `tok` with whitespace around it (30_encoding.md R69). -/
def LineHas (tok : List Byte) (f : RawFrame) : Prop :=
  ∃ p q : List Byte, f = .text (p ++ tok ++ q) ∧ p.all isSpace = true ∧ q.all isSpace = true

/-- `PWM_DUTY_ON` in a duty register. -/
def on (s : State) : Duty := BitVec.ofNat 8 s.cfg.pwmDutyOn

/-- Both axes stopped by `Stop` (41_motion_commands.md R105, its state and trace under each strategy). -/
def stopped (s : State) (reply : List Event) : State :=
  match s.cfg.strategy with
  | .hwPwm =>
    { s with
      az := { s.az with enabled := false }
      el := { s.el with enabled := false }
      pin := { s.pin with ind := .low }
      duty := { az := 0, el := 0 }
      lastCmd := some .stop
      trace := s.trace ++ [.dutyWrite .az 0, .dutyWrite .el 0, .pinWrite .ind .low] ++ reply }
  | .busyWait =>
    { s with
      az := { s.az with enabled := false }
      el := { s.el with enabled := false }
      pin := { s.pin with azPul := .low, elPul := .low, ind := .low }
      lastCmd := some .stop
      trace := s.trace ++ [.pinWrite .azPul .low, .pinWrite .elPul .low, .pinWrite .ind .low] ++ reply }

/-- Azimuth stopped by `StopAzOnly` (R106). -/
def stoppedAz (s : State) (reply : List Event) : State :=
  let v : Level := if s.el.enabled then .high else .low
  match s.cfg.strategy with
  | .hwPwm =>
    { s with
      az := { s.az with enabled := false }
      pin := { s.pin with ind := v }
      duty := { s.duty with az := 0 }
      lastCmd := some .stopAzOnly
      trace := s.trace ++ [.dutyWrite .az 0, .pinWrite .ind v] ++ reply }
  | .busyWait =>
    { s with
      az := { s.az with enabled := false }
      pin := { s.pin with azPul := .low, ind := v }
      lastCmd := some .stopAzOnly
      trace := s.trace ++ [.pinWrite .azPul .low, .pinWrite .ind v] ++ reply }

/-- Elevation stopped by `StopElOnly` (R107). -/
def stoppedEl (s : State) (reply : List Event) : State :=
  let v : Level := if s.az.enabled then .high else .low
  match s.cfg.strategy with
  | .hwPwm =>
    { s with
      el := { s.el with enabled := false }
      pin := { s.pin with ind := v }
      duty := { s.duty with el := 0 }
      lastCmd := some .stopElOnly
      trace := s.trace ++ [.dutyWrite .el 0, .pinWrite .ind v] ++ reply }
  | .busyWait =>
    { s with
      el := { s.el with enabled := false }
      pin := { s.pin with elPul := .low, ind := v }
      lastCmd := some .stopElOnly
      trace := s.trace ++ [.pinWrite .elPul .low, .pinWrite .ind v] ++ reply }

/-- Azimuth set running by `RotateAz(d)`, direction pin at `v` (R108, R109). -/
def ranAz (s : State) (d : Dir) (v : Level) (reply : List Event) : State :=
  match s.cfg.strategy with
  | .hwPwm =>
    { s with
      az := { s.az with direction := d, enabled := true }
      pin := { s.pin with azDir := v, ind := .high }
      duty := { s.duty with az := on s }
      lastCmd := some (.rotateAz d)
      trace := s.trace ++ [.pinWrite .azDir v, .dutyWrite .az (on s), .pinWrite .ind .high] ++ reply }
  | .busyWait =>
    { s with
      az := { s.az with direction := d, enabled := true }
      pin := { s.pin with azDir := v, ind := .high }
      lastCmd := some (.rotateAz d)
      trace := s.trace ++ [.pinWrite .azDir v, .pinWrite .ind .high] ++ reply }

/-- Elevation set running by `RotateEl(d)`, direction pin at `v` (R110, R111). -/
def ranEl (s : State) (d : Dir) (v : Level) (reply : List Event) : State :=
  match s.cfg.strategy with
  | .hwPwm =>
    { s with
      el := { s.el with direction := d, enabled := true }
      pin := { s.pin with elDir := v, ind := .high }
      duty := { s.duty with el := on s }
      lastCmd := some (.rotateEl d)
      trace := s.trace ++ [.pinWrite .elDir v, .dutyWrite .el (on s), .pinWrite .ind .high] ++ reply }
  | .busyWait =>
    { s with
      el := { s.el with direction := d, enabled := true }
      pin := { s.pin with elDir := v, ind := .high }
      lastCmd := some (.rotateEl d)
      trace := s.trace ++ [.pinWrite .elDir v, .pinWrite .ind .high] ++ reply }

/-- Both axes set running by `RotateBoth(a, e)`, direction pins at `v` and `w` (R112 to R115). -/
def ranBoth (s : State) (a e : Dir) (v w : Level) : State :=
  match s.cfg.strategy with
  | .hwPwm =>
    { s with
      az := { s.az with direction := a, enabled := true }
      el := { s.el with direction := e, enabled := true }
      pin := { s.pin with azDir := v, elDir := w, ind := .high }
      duty := { az := on s, el := on s }
      lastCmd := some (.rotateBoth a e)
      trace := s.trace ++ [.pinWrite .azDir v, .dutyWrite .az (on s), .pinWrite .elDir w,
        .dutyWrite .el (on s), .pinWrite .ind .high] }
  | .busyWait =>
    { s with
      az := { s.az with direction := a, enabled := true }
      el := { s.el with direction := e, enabled := true }
      pin := { s.pin with azDir := v, elDir := w, ind := .high }
      lastCmd := some (.rotateBoth a e)
      trace := s.trace ++ [.pinWrite .azDir v, .pinWrite .elDir w, .pinWrite .ind .high] }

/-- The line `"0000."` and its like: a four-digit echo (R104). -/
def line4 (a b c d : Byte) : Event := .resp [a, b, c, d, 0x2E]

/-- The rows of the two-axis rotates: instruction, directions, direction pin levels, code (R112 to R115). -/
def bothRows : List (Instr × Dir × Dir × Level × Level × Byte) :=
  [(.lu, .backward, .forward, .low, .high, 0x0C), (.ru, .forward, .forward, .high, .high, 0x0A),
   (.ld, .backward, .backward, .low, .low, 0x14), (.rd, .forward, .backward, .high, .low, 0x12)]

/-- The transition table of one axis (41_motion_commands.md R116): the mode after a command. -/
def modeAfter (c : Command) (ax : Axis) (m : AxisMode) : AxisMode :=
  let running : Dir → AxisMode := fun d =>
    match d with
    | .forward => .runningForward
    | .backward => .runningBackward
  match c, ax with
  | .stop, _ => .idle
  | .stopAzOnly, .az => .idle
  | .stopAzOnly, .el => m
  | .stopElOnly, .el => .idle
  | .stopElOnly, .az => m
  | .rotateAz d, .az => running d
  | .rotateAz _, .el => m
  | .rotateEl d, .el => running d
  | .rotateEl _, .az => m
  | .rotateBoth a _, .az => running a
  | .rotateBoth _ e, .el => running e
  | .queryAz, _ => m
  | .queryEl, _ => m
  | .queryBoth, _ => m
  | .unknown _, _ => m

/-- The commands that stop an axis (41_motion_commands.md R116, "Stop on ax"). -/
def stopsAxis : Command → Axis → Bool
  | .stop, _ => true
  | .stopAzOnly, ax => ax == .az
  | .stopElOnly, ax => ax == .el
  | .rotateAz _, _ | .rotateEl _, _ | .rotateBoth _ _, _ => false
  | .queryAz, _ | .queryEl, _ | .queryBoth, _ | .unknown _, _ => false

/-- The commands that name an axis at all. -/
def namesAxis : Command → Axis → Bool
  | .stop, _ | .rotateBoth _ _, _ => true
  | .stopAzOnly, ax | .rotateAz _, ax => ax == .az
  | .stopElOnly, ax | .rotateEl _, ax => ax == .el
  | .queryAz, _ | .queryEl, _ | .queryBoth, _ | .unknown _, _ => false

/-- The frame the next POLL phase takes, if it takes one. -/
def takenFrame (s : State) : Option RawFrame :=
  if s.phase = .poll ∧ (nextPoll s).disc = false then (nextPoll s).rx else none

/-- The six whitespace bytes of 30_encoding.md R69: space, tab, `0A`, `0B`, `0C`, carriage return. -/
def whitespaceBytes : List Byte := [0x20, 0x09, 0x0A, 0x0B, 0x0C, 0x0D]

/-- The echo of a `Stop` (41_motion_commands.md R104, R105): `"0000."` over text, none over binary. -/
def stopEcho (src : Format) : List Event :=
  match src with
  | .binary => []
  | .text => [line4 0x30 0x30 0x30 0x30]

/-- The reply events of a query (42_query_commands.md R121 to R123); no other command has any. -/
def queryReplies (c : Command) (s : State) : List Event :=
  let azReply : Event := .resp ([0x41, 0x5A, 0x3D] ++ dec (deg s.az.angle.toInt))
  let elReply : Event := .resp ([0x45, 0x4C, 0x3D] ++ dec (deg s.el.angle.toInt))
  match c with
  | .queryAz => [azReply]
  | .queryEl => [elReply]
  | .queryBoth => [azReply, elReply]
  | .stop | .stopAzOnly | .stopElOnly => []
  | .rotateAz _ | .rotateEl _ | .rotateBoth _ _ => []
  | .unknown _ => []

/-- `tick_pending` once the timer has expired as often as it does before this step (44_angle_accumulator.md
R150), for a step before which no reset falls. -/
def tickBeforeStep (s : State) : Bool := s.tickPending || (s.async.headD []).contains .tickFire

/-- The phase after a phase (10_state.md R22). -/
def phaseAfter : Phase → Phase
  | .poll => .pulse
  | .pulse => .tick
  | .tick => .status
  | .status => .poll

/-- The number that decimal digits spell. -/
def decValue (l : List Byte) : Nat := l.foldl (fun n b => 10 * n + (b.toNat - 0x30)) 0

/-- The value of an upper-case hexadecimal digit, `none` for another byte. -/
def hexValue? (b : Byte) : Option Nat :=
  if 0x30 ≤ b.toNat ∧ b.toNat ≤ 0x39 then some (b.toNat - 0x30)
  else if 0x41 ≤ b.toNat ∧ b.toNat ≤ 0x46 then some (b.toNat - 0x41 + 10)
  else none

/-- A word `W` with the sync bytes, the code at offset 3 and the given other bytes (00_scope.md R6). -/
def wordW (r2 code r4 r5 r6 : Byte) : Nat :=
  0xFF * 2 ^ 48 + 0x01 * 2 ^ 40 + r2.toNat * 2 ^ 32 + code.toNat * 2 ^ 24 + r4.toNat * 2 ^ 16 +
    r5.toNat * 2 ^ 8 + r6.toNat

end Sys2Proof.Claims

open Sys2Proof Sys2Proof.Machine Sys2Proof.Claims

/-! Decoding and encoding -/

/-- Decoding a frame of an instruction gives it back, under every legal configuration and whatever stands in
the reserved bytes and around a token (30_encoding.md R61, R64, R65, R69, R70). -/
def Obligations.DecodeEncodeAgree : Prop :=
  ∀ (c : Cfg) (k : Slack) (i : Instr), c.legal = true → k.wf = true →
    decode c (encodeWith c k i) = .instr i

/-- The other direction, without `BIN_QUERY`: only an instruction's frames decode to it. -/
def Obligations.DecodedFramesAreEncodings : Prop :=
  ∀ (c : Cfg) (f : RawFrame) (i : Instr), c.legal = true → c.binQuery = none →
    decode c f = .instr i → ∃ k : Slack, k.wf = true ∧ f = encodeWith c k i

/-- Frames written out from 95_test_vectors.md B1 and T1 decode to their commands. -/
def Obligations.SampleFramesDecode : Prop :=
  decode Cfg.fixed (.binary [0xFF, 0x01, 0x00, 0x02, 0x00, 0x00, 0x00]) = .instr .azf ∧
  decode Cfg.fixed (.binary [0xFF, 0x01, 0x55, 0x02, 0xAA, 0x3F, 0x99]) = .instr .azf ∧
  decode Cfg.fixed (.binary [0xFF, 0x01, 0x00, 0x00, 0x00, 0x00, 0x02]) = .instr .stop ∧
  decode Cfg.fixed (.binary [0xFF, 0x01, 0x00, 0x0C, 0x00, 0x00, 0x00]) = .instr .lu ∧
  decode Cfg.fixed (.binary [0xFF, 0x01, 0x00, 0x06, 0x00, 0x00, 0x00]) = .unknown (.code 0x06) ∧
  decode Cfg.fixed (.text [0x20, 0x20, 0x43, 0x32, 0x09]) = .instr .tC2 ∧
  decode Cfg.fixed (.text [0x53, 0x0D]) = .instr .tS ∧
  decode Cfg.fixed (.text [0x63, 0x32]) = .unknown (.token [0x63, 0x32])

/-- A word `W` of the opcode table decodes by its byte 3 alone, byte 0 most significant (00_scope.md R6,
30_encoding.md R61, R65; that a 56-bit word is a binary frame is log entry 9). -/
def Obligations.TableWordsDecodeByCode : Prop :=
  ∀ (w : Nat) (r2 code r4 r5 r6 : Byte) (i : Instr), w = wordW r2 code r4 r5 r6 →
    (decodeTableWord 56 w = some i ↔ i.src = .binary ∧ i.opcode = [code])

/-- A binary read of any other length than 7 is `FrameTooShort` with its length, and no other is
(40_decoder.md R81). -/
def Obligations.WrongLengthIsFrameTooShort : Prop :=
  ∀ (c : Cfg) (b : List Byte),
    (b.length ≠ 7 → decode c (.binary b) = .invalid .frameTooShort (.length b.length)) ∧
    (∀ n, decode c (.binary b) = .invalid .frameTooShort (.length n) → b.length ≠ 7 ∧ n = b.length)

/-- A 7-byte read with another first or second byte is `BadSyncBytes` with those bytes, whatever its code
(40_decoder.md R82), and no other frame is. -/
def Obligations.BadSyncReported : Prop :=
  ∀ (c : Cfg) (b0 b1 b2 b3 b4 b5 b6 x y : Byte),
    ((b0 ≠ 0xFF ∨ b1 ≠ 0x01) →
      decode c (.binary [b0, b1, b2, b3, b4, b5, b6]) = .invalid .badSyncBytes (.syncBytes b0 b1)) ∧
    (decode c (.binary [b0, b1, b2, b3, b4, b5, b6]) = .invalid .badSyncBytes (.syncBytes x y) →
      (b0 ≠ 0xFF ∨ b1 ≠ 0x01) ∧ x = b0 ∧ y = b1)

/-- Without `BIN_QUERY`, of the 256 codes exactly the ten mapped ones name a command; the other 246 are
`Unknown`, never a motion (30_encoding.md R66, R67). -/
def Obligations.UnmappedCodesAreUnknown : Prop :=
  (∀ (c : Cfg) (f : RawFrame) (code : Byte), c.binQuery = none → FrameHas c code f →
    code ∉ mappedCodes → decode c f = .unknown (.code code)) ∧
  (∀ (c : Cfg) (f : RawFrame) (code : Byte), c.binQuery = none → FrameHas c code f →
    code ∈ mappedCodes → ∃ i, decode c f = .instr i) ∧
  ((List.range 256).filter fun n => !mappedCodes.contains (BitVec.ofNat 8 n)).length = 246

/-- `Trim` takes off whitespace at both ends, and what is left neither begins nor ends with whitespace, so
both parts are the longest (40_decoder.md R84). Whitespace is the six bytes of 30_encoding.md R69 and no
other (the spec's G1, log entry 15). -/
def Obligations.TrimRemovesLongestWhitespace : Prop :=
  (∀ b : Byte, isSpace b = true ↔ b ∈ whitespaceBytes) ∧
  ∀ t : List Byte, ∃ p q : List Byte, t = p ++ trim t ++ q ∧ p.all isSpace = true ∧ q.all isSpace = true ∧
    (∀ b, (trim t).head? = some b → isSpace b = false) ∧
    (∀ b, (trim t).getLast? = some b → isSpace b = false) ∧
    (t.all isSpace = true → trim t = [])

/-- A text line is a command exactly when it is one of the ten tokens with whitespace around it; any other is
`Unknown` with its trimmed token, and none is `Invalid` (40_decoder.md R80, R85, 30_encoding.md R71). -/
def Obligations.OtherTokensAreUnknown : Prop :=
  ∀ (c : Cfg) (t : List Byte),
    (∃ i : Instr, i.src = .text ∧ LineHas i.opcode (.text t) ∧ decode c (.text t) = .instr i) ∨
    ((∀ i : Instr, i.src = .text → ¬ LineHas i.opcode (.text t)) ∧
      decode c (.text t) = .unknown (.token (trim t)))

/-- With `BIN_QUERY` present its two codes ask the two queries, every other frame decodes as without it, and
no binary frame is `QueryBoth` (30_encoding.md R68). -/
def Obligations.QueryMarkersDecode : Prop :=
  ∀ (c : Cfg) (qAz qEl : Byte), c.legal = true → c.binQuery = some (qAz, qEl) →
    (∀ f, FrameHas c qAz f → (decode c f).command? = some .queryAz) ∧
    (∀ f, FrameHas c qEl f → (decode c f).command? = some .queryEl) ∧
    (∀ f, ¬ FrameHas c qAz f → ¬ FrameHas c qEl f → decode c f = decode { c with binQuery := none } f) ∧
    (∀ b, (decode c (.binary b)).command? ≠ some .queryBoth)

/-! The commands: encodings, next state, frame -/

/-- STOP, STOP1 and T.S (41_motion_commands.md R105): from any state, also when the last command is `Stop`. -/
def Obligations.StopForcesBothIdle : Prop :=
  (∀ (c : Cfg) (f : RawFrame), c.legal = true →
    (decode c f = .instr .stop ↔ FrameHas c 0x00 f) ∧
    (decode c f = .instr .stop1 ↔ FrameHas c 0x01 f) ∧
    (decode c f = .instr .tS ↔ LineHas [0x53] f)) ∧
  ∀ s : State,
    exec .stop s = .next (stopped s []) ∧
    exec .stop1 s = .next (stopped s []) ∧
    exec .tS s = .next (stopped s [line4 0x30 0x30 0x30 0x30]) ∧
    (tickPhase (stopped s [])).az.angle = s.az.angle ∧
    (tickPhase (stopped s [])).el.angle = s.el.angle

/-- T.A (R106): applied unless a duplicate. -/
def Obligations.StopAzOnlyStopsAzimuth : Prop :=
  (∀ (c : Cfg) (f : RawFrame), c.legal = true → (decode c f = .instr .tA ↔ LineHas [0x41] f)) ∧
  ∀ s : State,
    (s.lastCmd ≠ some .stopAzOnly → exec .tA s = .next (stoppedAz s [line4 0x30 0x30 0x30 0x30])) ∧
    (s.lastCmd = some .stopAzOnly → exec .tA s = .next s)

/-- T.E (R107): applied unless a duplicate. -/
def Obligations.StopElOnlyStopsElevation : Prop :=
  (∀ (c : Cfg) (f : RawFrame), c.legal = true → (decode c f = .instr .tE ↔ LineHas [0x45] f)) ∧
  ∀ s : State,
    (s.lastCmd ≠ some .stopElOnly → exec .tE s = .next (stoppedEl s [line4 0x30 0x30 0x30 0x30])) ∧
    (s.lastCmd = some .stopElOnly → exec .tE s = .next s)

/-- AZF and T.R (R108). -/
def Obligations.RotateAzForwardRuns : Prop :=
  (∀ (c : Cfg) (f : RawFrame), c.legal = true →
    (decode c f = .instr .azf ↔ FrameHas c 0x02 f) ∧ (decode c f = .instr .tR ↔ LineHas [0x52] f)) ∧
  ∀ s : State,
    (s.lastCmd ≠ some (.rotateAz .forward) →
      exec .azf s = .next (ranAz s .forward .high []) ∧
      exec .tR s = .next (ranAz s .forward .high [line4 0x30 0x30 0x30 0x32])) ∧
    (s.lastCmd = some (.rotateAz .forward) → exec .azf s = .next s ∧ exec .tR s = .next s)

/-- AZB and T.L (R109). -/
def Obligations.RotateAzBackwardRuns : Prop :=
  (∀ (c : Cfg) (f : RawFrame), c.legal = true →
    (decode c f = .instr .azb ↔ FrameHas c 0x04 f) ∧ (decode c f = .instr .tL ↔ LineHas [0x4C] f)) ∧
  ∀ s : State,
    (s.lastCmd ≠ some (.rotateAz .backward) →
      exec .azb s = .next (ranAz s .backward .low []) ∧
      exec .tL s = .next (ranAz s .backward .low [line4 0x30 0x30 0x30 0x34])) ∧
    (s.lastCmd = some (.rotateAz .backward) → exec .azb s = .next s ∧ exec .tL s = .next s)

/-- ELF and T.U (R110): at every angle, `EL_MAX` included. -/
def Obligations.RotateElForwardRuns : Prop :=
  (∀ (c : Cfg) (f : RawFrame), c.legal = true →
    (decode c f = .instr .elf ↔ FrameHas c 0x08 f) ∧ (decode c f = .instr .tU ↔ LineHas [0x55] f)) ∧
  ∀ s : State,
    (s.lastCmd ≠ some (.rotateEl .forward) →
      exec .elf s = .next (ranEl s .forward .high []) ∧
      exec .tU s = .next (ranEl s .forward .high [line4 0x30 0x30 0x30 0x38])) ∧
    (s.lastCmd = some (.rotateEl .forward) → exec .elf s = .next s ∧ exec .tU s = .next s)

/-- ELB and T.D (R111): at every angle, `EL_MIN` included. -/
def Obligations.RotateElBackwardRuns : Prop :=
  (∀ (c : Cfg) (f : RawFrame), c.legal = true →
    (decode c f = .instr .elb ↔ FrameHas c 0x10 f) ∧ (decode c f = .instr .tD ↔ LineHas [0x44] f)) ∧
  ∀ s : State,
    (s.lastCmd ≠ some (.rotateEl .backward) →
      exec .elb s = .next (ranEl s .backward .low []) ∧
      exec .tD s = .next (ranEl s .backward .low [line4 0x30 0x30 0x31 0x30])) ∧
    (s.lastCmd = some (.rotateEl .backward) → exec .elb s = .next s ∧ exec .tD s = .next s)

/-- LU, RU, LD and RD (R112 to R115). -/
def Obligations.RotateBothRuns : Prop :=
  ∀ (i : Instr) (a e : Dir) (v w : Level) (code : Byte), (i, a, e, v, w, code) ∈ bothRows →
    (∀ (c : Cfg) (f : RawFrame), c.legal = true → (decode c f = .instr i ↔ FrameHas c code f)) ∧
    ∀ s : State,
      (s.lastCmd ≠ some (.rotateBoth a e) → exec i s = .next (ranBoth s a e v w)) ∧
      (s.lastCmd = some (.rotateBoth a e) → exec i s = .next s)

/-- T.C (42_query_commands.md R121): the reply and nothing else; the token and, with `BIN_QUERY`, the code
`q_az` ask it. -/
def Obligations.QueryAzReplies : Prop :=
  (∀ (c : Cfg) (f : RawFrame), c.legal = true →
    ((decode c f).command? = some .queryAz ↔
      LineHas [0x43] f ∨ ∃ qAz qEl, c.binQuery = some (qAz, qEl) ∧ FrameHas c qAz f)) ∧
  ∀ s : State,
    exec .tC s =
      .next { s with trace := s.trace ++ [.resp ([0x41, 0x5A, 0x3D] ++ dec (deg s.az.angle.toInt))] } ∧
    (s.az.angle = 100 → exec .tC s = .next { s with trace := s.trace ++ [.resp [0x41, 0x5A, 0x3D, 0x31, 0x30]] })

/-- T.B (R122): the reply and nothing else; the token and, with `BIN_QUERY`, the code `q_el` ask it. -/
def Obligations.QueryElReplies : Prop :=
  (∀ (c : Cfg) (f : RawFrame), c.legal = true →
    ((decode c f).command? = some .queryEl ↔
      LineHas [0x42] f ∨ ∃ qAz qEl, c.binQuery = some (qAz, qEl) ∧ FrameHas c qEl f)) ∧
  ∀ s : State,
    exec .tB s =
      .next { s with trace := s.trace ++ [.resp ([0x45, 0x4C, 0x3D] ++ dec (deg s.el.angle.toInt))] } ∧
    (s.el.angle = 455 → exec .tB s = .next { s with trace := s.trace ++ [.resp [0x45, 0x4C, 0x3D, 0x34, 0x36]] })

/-- T.C2 (R123): two lines, azimuth first, and nothing else. -/
def Obligations.QueryBothReplies : Prop :=
  (∀ (c : Cfg) (f : RawFrame), c.legal = true → (decode c f = .instr .tC2 ↔ LineHas [0x43, 0x32] f)) ∧
  ∀ s : State,
    exec .tC2 s =
      .next { s with
        trace := s.trace ++ [.resp ([0x41, 0x5A, 0x3D] ++ dec (deg s.az.angle.toInt)),
          .resp ([0x45, 0x4C, 0x3D] ++ dec (deg s.el.angle.toInt))] } ∧
    (s.az.angle = 3599 → s.el.angle = 0 →
      exec .tC2 s =
        .next { s with
          trace := s.trace ++ [.resp [0x41, 0x5A, 0x3D, 0x33, 0x36, 0x30], .resp [0x45, 0x4C, 0x3D, 0x30]] })

/-! Deduplication -/

/-- A motion command equal to `last_cmd` has no effect at all, so the same command twice in a row, over either
protocol and from either code, changes the state once (40_decoder.md R88); `Stop` is the exception (R89). -/
def Obligations.RepeatedCommandIsSuppressed : Prop :=
  (∀ (i : Instr) (s : State), i.command ≠ .stop → s.lastCmd = some i.command →
    i.command.recordable = true → exec i s = .next s) ∧
  (∀ (i j : Instr) (s t : State), i.command.recordable = true → i.command ≠ .stop → j.command = i.command →
    exec i s = .next t → exec j t = .next t)

/-- Which commands are exempt (40_decoder.md R89), whatever `last_cmd` holds: a `Stop` always makes its writes,
sends its echo over text and is recorded; a query always sends its replies, one for each angle it asks, and
an Unknown frame always gives its diagnostic, both changing nothing else, `last_cmd` included. The two partial
stops are not exempt: a repeated one does nothing. -/
def Obligations.StopAndQueriesAreExempt : Prop :=
  (∀ (i : Instr) (s : State), i.command = .stop → exec i s = .next (stopped s (stopEcho i.src))) ∧
  (∀ (i : Instr) (s : State), i.command ∈ [.queryAz, .queryEl, .queryBoth] →
    exec i s = .next { s with trace := s.trace ++ queryReplies i.command s }) ∧
  (∀ (f : RawFrame) (info : UnknownInfo) (s : State), decode s.cfg f = .unknown info →
    acceptFrame f s = .next { s with trace := s.trace ++ [.diag .unknownCommandCode (.unknown info)] }) ∧
  (∀ (i : Instr) (s : State), i.command ∈ [.stopAzOnly, .stopElOnly] → s.lastCmd = some i.command →
    exec i s = .next s)

/-- After a motion command `last_cmd` is that command, and nothing else in a step without a reset changes it
(40_decoder.md R91). -/
def Obligations.LastCmdIsLastApplied : Prop :=
  (∀ (i : Instr) (s t : State), i.command.recordable = true → exec i s = .next t →
    t.lastCmd = some i.command) ∧
  (∀ s t : State, s.noResetNow → step s = .next t → t.lastCmd ≠ s.lastCmd →
    ∃ f i, takenFrame s = some f ∧ decode s.cfg f = .instr i ∧ i.command.recordable = true ∧
      t.lastCmd = some i.command)

/-- Under the invariant, applying the suppressed command would write what is already there: the axes, the pins
and the duties stay (40_decoder.md R92). -/
def Obligations.DeduplicationChangesNoAxis : Prop :=
  ∀ (i : Instr) (s : State), s.Inv → s.lastCmd = some i.command →
    ∃ t, exec i { s with lastCmd := none } = .next t ∧
      t.az = s.az ∧ t.el = s.el ∧ t.pin = s.pin ∧ t.duty = s.duty

/-- Accepting a frame that decodes to a query changes no field of the state, and adds one or two reply lines
(42_query_commands.md R125). -/
def Obligations.QueriesArePure : Prop :=
  ∀ (f : RawFrame) (i : Instr) (s : State), decode s.cfg f = .instr i → i.command.recordable = false →
    ∃ lines : List (List Byte), (lines.length = 1 ∨ lines.length = 2) ∧
      acceptFrame f s = .next { s with trace := s.trace ++ lines.map .resp }

/-! The axis state machine -/

/-- The transition table of one axis under a command (41_motion_commands.md R116). -/
def Obligations.AxisTransitionTable : Prop :=
  ∀ (i : Instr) (s t : State), s.Inv → exec i s = .next t →
    ∀ ax, (t.axis ax).mode = modeAfter i.command ax (s.axis ax).mode

/-- Nothing but an applied stop-type command naming the axis sets `enabled` to false (R117); a reset, which
puts every field back, is not meant. -/
def Obligations.OnlyStopDisablesAnAxis : Prop :=
  ∀ (s t : State) (ax : Axis), s.noResetNow → step s = .next t →
    (s.axis ax).enabled = true → (t.axis ax).enabled = false →
      ∃ f i, takenFrame s = some f ∧ decode s.cfg f = .instr i ∧ stopsAxis i.command ax = true

/-- A step changes an axis's mode only by a command that names the axis: the column "other" of R116. -/
def Obligations.OnlyNamingCommandsChangeMode : Prop :=
  ∀ (s t : State) (ax : Axis), s.noResetNow → step s = .next t →
    (t.axis ax).mode ≠ (s.axis ax).mode →
      ∃ f i, takenFrame s = some f ∧ decode s.cfg f = .instr i ∧ namesAxis i.command ax = true

/-- A command that does not name an axis leaves its fields, pins and duty as they are (R119). -/
def Obligations.AxesAreIndependent : Prop :=
  ∀ (i : Instr) (s t : State) (ax : Axis), namesAxis i.command ax = false → exec i s = .next t →
    t.axis ax = s.axis ax ∧ t.dutyOf ax = s.dutyOf ax ∧
    t.pinOf (dirPin ax) = s.pinOf (dirPin ax) ∧ t.pinOf (pulPin ax) = s.pinOf (pulPin ax)

/-! Values and spellings -/

/-- `deg` rounds to the nearest whole degree, a tie away from zero, without wrapping (42_query_commands.md
R120). -/
def Obligations.DegreesRoundToNearest : Prop :=
  (∀ a : Int, 0 ≤ a → 10 * deg a ≤ a + 5 ∧ a + 5 < 10 * deg a + 10) ∧
  (∀ a : Int, a < 0 → deg a = -deg (-a)) ∧
  [0, 4, 5, 14, 15, 100, 3594, 3595, 3599, 900, -5, -4].map deg =
    [0, 0, 1, 1, 2, 10, 359, 360, 360, 90, -1, 0]

/-- `dec` spells a number: only digits that read back to it, no leading zero, a minus sign before a negative
value (00_scope.md R7). -/
def Obligations.DecimalSpellingReadsBack : Prop :=
  ∀ n : Nat,
    decValue (dec n) = n ∧ (∀ b ∈ dec n, 0x30 ≤ b.toNat ∧ b.toNat ≤ 0x39) ∧
    ((dec n).head? = some 0x30 → n = 0 ∧ dec n = [0x30]) ∧
    (0 < n → dec (-(n : Int)) = 0x2D :: dec n)

/-- `hex4` spells a 16-bit number in four upper-case digits, most significant first (00_scope.md R7). -/
def Obligations.HexSpellingReadsBack : Prop :=
  ∀ n : Nat, n ≤ 65535 →
    ∃ a b c d x y z w, hex4 n = [a, b, c, d] ∧ hexValue? a = some x ∧ hexValue? b = some y ∧
      hexValue? c = some z ∧ hexValue? d = some w ∧ n = 4096 * x + 256 * y + 16 * z + w

/-! The loop -/

/-- A POLL step whose sampled frame decodes to an instruction runs it: after the events before the step, the
input is used up, the buffer holds the frame, and the phase advances to PULSE (43_pulse_generation.md R131;
the model's conventions are log entries 4, 5 and 7). -/
def Obligations.StepRunsDecodedInstruction : Prop :=
  ∀ (s : State) (f : RawFrame) (i : Instr), s.cfg.legal = true → (takeAsync s).phase = .poll →
    nextPoll s = offering f → decode s.cfg f = .instr i →
    ∃ t, exec i (((takeAsync s).setPolls s.polls.tail).setFrameBuf f) = .next t ∧
      step s = .next (t.setPhase .pulse)

/-- The phase advances in the fixed cycle POLL, PULSE, TICK, STATUS, one phase a step (10_state.md R22). -/
def Obligations.PhaseCycleIsFixed : Prop :=
  ∀ s t : State, s.noResetNow → step s = .next t → t.phase = phaseAfter s.phase

/-- The PULSE phase under `BusyWait`: one HIGH then LOW pulse of half periods `speedParam div 2` for each
enabled axis, azimuth first, and nothing for a disabled one (43_pulse_generation.md R132, R135, R136). -/
def Obligations.BusyWaitPulses : Prop :=
  ∀ s : State, s.cfg.strategy = .busyWait →
    let ha := s.az.speedParam.toNat / 2
    let he := s.el.speedParam.toNat / 2
    pulsePhase s =
      { s with
        pin := { s.pin with
          azPul := if s.az.enabled then .low else s.pin.azPul
          elPul := if s.el.enabled then .low else s.pin.elPul }
        trace := s.trace ++
          (if s.az.enabled then [.pinWrite .azPul .high, .delay ha, .pinWrite .azPul .low, .delay ha] else []) ++
          (if s.el.enabled then [.pinWrite .elPul .high, .delay he, .pinWrite .elPul .low, .delay he] else [])
        phase := .tick }

/-- The PULSE phase under `HwPwm`: both duties written, 0 for a disabled axis, with the values they already
hold under the invariant (43_pulse_generation.md R138). -/
def Obligations.PwmRefreshesDuties : Prop :=
  ∀ s : State, s.cfg.strategy = .hwPwm →
    let da : Duty := if s.az.enabled then on s else 0
    let de : Duty := if s.el.enabled then on s else 0
    pulsePhase s =
      { s with
        duty := { az := da, el := de }
        trace := s.trace ++ [.dutyWrite .az da, .dutyWrite .el de]
        phase := .tick } ∧
    (s.Inv → (pulsePhase s).duty = s.duty)

/-- Under `HwPwm` and the invariant a pulse pin carries `PWM_DUTY_ON` of 256 parts of each period while its
axis is enabled and is LOW, with no steps, otherwise (43_pulse_generation.md R139; the divisor is the
spec's general knowledge G2, log entry 15). -/
def Obligations.PwmWaveformFollowsEnable : Prop :=
  ∀ (s : State) (ax : Axis), s.Inv → s.cfg.strategy = .hwPwm →
    pulseOutput ax s = .carrier (if (s.axis ax).enabled then s.cfg.pwmDutyOn else 0) 256 s.cfg.pwmFreqHz ∧
    carrierStepRate ax s = if (s.axis ax).enabled then s.cfg.pwmFreqHz else 0

/-- Under `BusyWait` the step pulses sent on an axis over any number of steps without a reset are the PULSE
phases at which it was enabled (43_pulse_generation.md R141). -/
def Obligations.StepPulsesCountPulsePhases : Prop :=
  ∀ (k : Nat) (s t : State) (ax : Axis), s.cfg.strategy = .busyWait → s.noReset →
    runSteps k s = .next t →
    risingEdges ax t.trace = risingEdges ax s.trace + pulsesDue ax k s

/-- The TICK phase: nothing but the phase when no tick is pending; otherwise the tick is consumed and each
enabled axis's angle takes its next value (44_angle_accumulator.md R151). -/
def Obligations.TickPhaseConsumesTick : Prop :=
  ∀ s : State,
    (s.tickPending = false → tickPhase s = { s with phase := .status }) ∧
    (s.tickPending = true →
      tickPhase s =
        { s with
          tickPending := false
          az := { s.az with
            angle := if s.az.enabled then azNext s.cfg s.az.direction s.az.angle else s.az.angle }
          el := { s.el with
            angle := if s.el.enabled then elNext s.cfg s.el.direction s.el.angle else s.el.angle }
          phase := .status })

/-- Any number of azimuth updates: the angle moves one count a tick and wraps into 0 .. 3599 both ways, a
disabled axis keeps its angle, and nothing else is written (44_angle_accumulator.md R152). -/
def Obligations.AzimuthTicksWrap : Prop :=
  ∀ (n : Nat) (s : State), s.cfg.legal = true → 0 ≤ s.az.angle.toInt → s.az.angle.toInt ≤ 3599 →
    let t := angleUpdateAz^[n] s
    t = { s with az := { s.az with angle := t.az.angle } } ∧
    t.az.angle.toInt =
      if s.az.enabled then
        match s.az.direction with
        | .forward => (s.az.angle.toInt + n) % 3600
        | .backward => (s.az.angle.toInt - n) % 3600
      else s.az.angle.toInt

/-- Any number of elevation updates: the angle moves one count a tick and saturates at the bounds, a disabled
axis keeps its angle, and nothing else is written (44_angle_accumulator.md R153). -/
def Obligations.ElevationTicksClamp : Prop :=
  ∀ (n : Nat) (s : State), s.cfg.legal = true → s.cfg.elMin ≤ s.el.angle.toInt →
    s.el.angle.toInt ≤ s.cfg.elMax →
    let t := angleUpdateEl^[n] s
    t = { s with el := { s.el with angle := t.el.angle } } ∧
    t.el.angle.toInt =
      if s.el.enabled then
        match s.el.direction with
        | .forward => min (s.el.angle.toInt + n) s.cfg.elMax
        | .backward => max (s.el.angle.toInt - n) s.cfg.elMin
      else s.el.angle.toInt

/-- An angle changes only at a TICK phase that finds the tick pending and the axis enabled
(44_angle_accumulator.md R154). -/
def Obligations.AngleMovesOnlyAtTick : Prop :=
  ∀ (s t : State) (ax : Axis), s.noResetNow → step s = .next t → (t.axis ax).angle ≠ (s.axis ax).angle →
    s.phase = .tick ∧ (takeAsync s).tickPending = true ∧ (s.axis ax).enabled = true

/-- The angles do not depend on the pulses: two states that agree on what the accumulator reads have the same
angles after TICK, and no pulse writes an angle (44_angle_accumulator.md R155). -/
def Obligations.AnglesIgnorePulses : Prop :=
  (∀ s u : State, s.cfg = u.cfg → s.tickPending = u.tickPending →
    (∀ ax, (s.axis ax).enabled = (u.axis ax).enabled ∧ (s.axis ax).direction = (u.axis ax).direction ∧
      (s.axis ax).angle = (u.axis ax).angle) →
    ∀ ax, ((tickPhase s).axis ax).angle = ((tickPhase u).axis ax).angle) ∧
  (∀ (s : State) (ax : Axis), ((pulsePhase s).axis ax).angle = (s.axis ax).angle)

/-- A tick in the iteration that accepts a command uses the axes as the command left them
(44_angle_accumulator.md R159). -/
def Obligations.TickSeesTheNewCommand : Prop :=
  ∀ (f : RawFrame) (i : Instr) (fires : Nat) (s t u : State), decode s.cfg f = .instr i →
    exec i (s.setFrameBuf f) = .next u → iteration (some f) false fires s = .next t →
    (u.az.enabled = false → t.az.angle = s.az.angle) ∧
    (u.el.enabled = false → t.el.angle = s.el.angle) ∧
    (1 ≤ fires ∨ s.tickPending = true → u.az.enabled = true →
      t.az.angle = azNext s.cfg u.az.direction s.az.angle) ∧
    (1 ≤ fires ∨ s.tickPending = true → u.el.enabled = true →
      t.el.angle = elNext s.cfg u.el.direction s.el.angle)

/-! Errors, disconnects, memory, trace -/

/-- A rejected or unrecognized frame gives one diagnostic with its kind and info and changes nothing else of
what `Accept` acts on; its POLL phase ends as after any frame (60_exceptions.md R170; that the buffer then
holds the frame is log entry 7). -/
def Obligations.ErrorsOnlyReport : Prop :=
  ∀ (f : RawFrame) (s : State),
    (∀ info, decode s.cfg f = .unknown info →
      pollPhase (some f) false s =
        .next { s with
          frameBuf := some f
          trace := s.trace ++ [.diag .unknownCommandCode (.unknown info)]
          phase := .pulse }) ∧
    (∀ e info, decode s.cfg f = .invalid e info →
      pollPhase (some f) false s =
        .next { s with frameBuf := some f, trace := s.trace ++ [.diag e info], phase := .pulse })

/-- A disconnect, an empty POLL and a STATUS phase: nothing is reported and nothing changes but the phase, the
inputs used up and what the timer set before the step, so running axes keep running, `last_cmd` is kept, and
an expiry before the STATUS step counts for the next TICK (60_exceptions.md R169, 43_pulse_generation.md R131,
R133, R144; how inputs are held is log entries 4 and 14). -/
def Obligations.DisconnectHasNoEffect : Prop :=
  ∀ s : State, s.cfg.legal = true → s.noResetNow →
    (s.phase = .poll → ((nextPoll s).disc = true ∨ (nextPoll s).rx = none) →
      step s = .next { s with
        tickPending := tickBeforeStep s
        polls := s.polls.tail
        async := s.async.tail
        phase := .pulse }) ∧
    (s.phase = .status →
      step s = .next { s with
        tickPending := tickBeforeStep s
        async := s.async.tail
        phase := .poll })

/-- No command writes the frame buffer: a step without a reset fills it with the frame taken, or leaves every
byte of it as it was (20_memory.md R40, R42; that it keeps a frame after POLL is log entry 7). -/
def Obligations.OnlyPollFillsTheBuffer : Prop :=
  (∀ (i : Instr) (s t : State), exec i s = .next t → ∀ a, readByte t a = readByte s a) ∧
  (∀ s t : State, s.noResetNow → step s = .next t → ∀ a,
    readByte t a =
      match takenFrame s with
      | some f => f.bytes[a]?
      | none => readByte s a)

/-- A step takes at most one poll input, and only in the POLL phase (40_decoder.md R94; log entry 4). -/
def Obligations.OneSamplePerPoll : Prop :=
  ∀ s t : State, s.noResetNow → step s = .next t →
    t.polls = if s.phase = .poll then s.polls.tail else s.polls

/-- The trace only grows: a step without a reset keeps every earlier event, in order (10_state.md R28). -/
def Obligations.TraceOnlyGrows : Prop :=
  ∀ s t : State, s.noResetNow → step s = .next t → ∃ evs, t.trace = s.trace ++ evs

/-! Reset, configuration, invariant, runs -/

/-- The reset state (10_state.md R29), under every legal configuration, with the angles 0 by default; a reset
event puts every piece of state back to it. -/
def Obligations.ResetValues : Prop :=
  (∀ c : Cfg, c.legal = true →
    let s := State.resetWith c
    s.cfg = c ∧ (∀ ax, (s.axis ax).enabled = false ∧ (s.axis ax).direction = .backward ∧
      (s.axis ax).speedParam.toNat =
        match c.strategy with
        | .busyWait => c.speedOf ax
        | .hwPwm => c.pwmDutyOn) ∧
    s.az.angle.toInt = c.azInit ∧ s.el.angle.toInt = c.elInit ∧ s.lastCmd = none ∧
    (∀ p, s.pinOf p = .low) ∧ (∀ ax, s.dutyOf ax = 0) ∧ s.tickPending = false ∧ s.phase = .poll ∧
    s.frameBuf = none ∧ s.trace = []) ∧
  State.reset.az.angle = 0 ∧ State.reset.el.angle = 0 ∧
  (∀ s : State, { asyncEvent s .reset with polls := [], async := [] } = State.resetWith s.cfg)

/-- A configuration outside the legal values is refused, and no other step is (00_scope.md R5; that `step`
refuses it is log entry 8). -/
def Obligations.IllegalConfigIsRefused : Prop :=
  ∀ s : State, step s = .refused .illegalConfig ↔ s.cfg.legal = false

/-- `Cfg` is constant: no step changes it, a reset included (00_scope.md R5; that State holds it is log
entry 1). -/
def Obligations.ConfigurationIsConstant : Prop :=
  ∀ (k : Nat) (s t : State), runSteps k s = .next t → t.cfg = s.cfg

/-- The invariant holds after reset under every legal configuration (70_reset_and_hazards.md R191(d)). -/
def Obligations.InvariantHoldsAtReset : Prop :=
  State.reset.Inv ∧ ∀ c : Cfg, c.legal = true → (State.resetWith c).Inv

/-- Every step keeps the invariant: the relations of 10_state.md R25 between pins, duties, indicator and axis
state, the ranges of the angles, the constancy of `speedParam` and the meaning of `last_cmd`. -/
def Obligations.EveryStepKeepsInvariant : Prop :=
  ∀ s t : State, s.Inv → step s = .next t → t.Inv

/-- The atomic steps of 10_state.md R25 (one accepted frame, one axis's pulse, one angle update) and a timer
expiry or a reset between them each keep the invariant, so it holds inside a phase too (log entry 5). -/
def Obligations.EachAtomicStepKeepsInvariant : Prop :=
  ∀ s : State, s.Inv →
    (∀ (f : RawFrame) (t : State), acceptFrame f s = .next t → t.Inv) ∧ (∀ ax, (pulseAxis ax s).Inv) ∧
    (angleUpdateAz s).Inv ∧ (angleUpdateEl s).Inv ∧ (∀ e, (asyncEvent s e).Inv)

/-- The block never halts by itself: under a legal configuration every number of steps completes
(70_reset_and_hazards.md R204). -/
def Obligations.BlockNeverHalts : Prop :=
  ∀ (s : State), s.cfg.legal = true → ∀ k, ∃ t, runSteps k s = .next t

/-- Four steps from POLL do one `Iteration`, wherever the timer expiries fall before the TICK phase
(43_pulse_generation.md R144; how the inputs are held and how steps are cut is log entries 4 and 5). -/
def Obligations.FourStepsAreOneIteration : Prop :=
  ∀ (s : State) (rx : Option RawFrame) (disc : Bool) (n0 n1 n2 : Nat) (ps : List PollInput)
    (as : List (List AsyncEvent)), s.cfg.legal = true → s.phase = .poll →
    runSteps 4
        { s with
          polls := { rx := rx, disc := disc } :: ps
          async := List.replicate n0 .tickFire :: List.replicate n1 .tickFire ::
            List.replicate n2 .tickFire :: [] :: as } =
      iteration rx disc (n0 + n1 + n2) { s with polls := ps, async := as }

/-- A run of the machine is a list of iterations (70_reset_and_hazards.md R204; log entries 4 and 5). -/
def Obligations.RunIsAListOfIterations : Prop :=
  ∀ (is : List IterInput) (s : State) (ps : List PollInput) (as : List (List AsyncEvent)),
    s.cfg.legal = true → s.phase = .poll →
    runSteps (4 * is.length) { s with polls := pollsOf is ++ ps, async := asyncOf is ++ as } =
      runIterations is { s with polls := ps, async := as }

/-- Extra timer expiries before one TICK phase are lost (44_angle_accumulator.md R158). -/
def Obligations.LateTicksAreLost : Prop :=
  (∀ (rx : Option RawFrame) (disc : Bool) (n : Nat) (s : State), 1 ≤ n →
    iteration rx disc n s = iteration rx disc 1 s) ∧
  (∀ s : State, s.tickPending = true → asyncEvent s .tickFire = s)
end

