-- ==== Sys2Proof/Laws/Decode.lean ====
section
/-! SUPPORT. What the decoder's tables and its word form hold, said once. -/

namespace Sys2Proof

/-- No two rows of the binary map share a code (30_encoding.md R65). -/
theorem codeTable_distinct : codeTable.Pairwise fun x y => x.1 ≠ y.1 := by decide

/-- No two rows of the token map share a token (30_encoding.md R70). -/
theorem tokenTable_distinct : tokenTable.Pairwise fun x y => x.1 ≠ y.1 := by decide

theorem mem_of_lookup_eq_some {α β : Type} [BEq α] [LawfulBEq α] {l : List (α × β)} {a : α} {b : β}
    (h : l.lookup a = some b) : (a, b) ∈ l := by
  induction l with
  | nil => cases h
  | cons x xs ih =>
    obtain ⟨x1, x2⟩ := x
    simp only [List.lookup] at h
    split at h
    · rename_i he
      cases h
      simp_all
    · exact List.mem_cons_of_mem _ (ih h)

/-- The rows of the binary map and the encoder's codes agree. -/
theorem codeTable_lookup (k : Byte) (i : Instr) :
    codeTable.lookup k = some i ↔ i.src = .binary ∧ i.opcode = [k] := by
  constructor
  · intro h
    have rows : ∀ r ∈ codeTable, r.2.src = .binary ∧ r.2.opcode = [r.1] := by decide
    exact rows _ (mem_of_lookup_eq_some h)
  · rintro ⟨hs, ho⟩
    cases i <;> first | (cases ho; rfl) | cases hs

/-- The rows of the token map and the encoder's tokens agree. -/
theorem tokenTable_lookup (t : List Byte) (i : Instr) :
    tokenTable.lookup t = some i ↔ i.src = .text ∧ i.opcode = t := by
  constructor
  · intro h
    have rows : ∀ r ∈ tokenTable, r.2.src = .text ∧ r.2.opcode = r.1 := by decide
    exact rows _ (mem_of_lookup_eq_some h)
  · rintro ⟨hs, rfl⟩
    cases i <;> first | rfl | cases hs

/-- A table word decodes as the frame it lays out does. -/
theorem decodeTableWord_eq_some {n w : Nat} {f : RawFrame} (h : frameOfWord n w = f) (i : Instr) :
    decodeTableWord n w = some i ↔ decode Cfg.fixed f = .instr i := by
  subst h
  unfold decodeTableWord
  generalize decode Cfg.fixed (frameOfWord n w) = d
  cases d <;> simp

end Sys2Proof
end

