-- ==== Sys2Proof/Laws/State.lean ====
section
/-! SUPPORT. One lemma per field per update of State, so that no later proof unfolds a record update. -/

namespace Sys2Proof.Machine

@[simp] theorem State.setLastCmd_cfg (s : State) (c : Command) : (s.setLastCmd c).cfg = s.cfg := rfl
@[simp] theorem State.setLastCmd_az (s : State) (c : Command) : (s.setLastCmd c).az = s.az := rfl
@[simp] theorem State.setLastCmd_el (s : State) (c : Command) : (s.setLastCmd c).el = s.el := rfl
@[simp] theorem State.setLastCmd_lastCmd (s : State) (c : Command) : (s.setLastCmd c).lastCmd = some c := rfl
@[simp] theorem State.setLastCmd_pin (s : State) (c : Command) : (s.setLastCmd c).pin = s.pin := rfl
@[simp] theorem State.setLastCmd_duty (s : State) (c : Command) : (s.setLastCmd c).duty = s.duty := rfl
@[simp] theorem State.setLastCmd_tickPending (s : State) (c : Command) : (s.setLastCmd c).tickPending = s.tickPending := rfl
@[simp] theorem State.setLastCmd_phase (s : State) (c : Command) : (s.setLastCmd c).phase = s.phase := rfl
@[simp] theorem State.setLastCmd_frameBuf (s : State) (c : Command) : (s.setLastCmd c).frameBuf = s.frameBuf := rfl
@[simp] theorem State.setLastCmd_trace (s : State) (c : Command) : (s.setLastCmd c).trace = s.trace := rfl
@[simp] theorem State.setLastCmd_polls (s : State) (c : Command) : (s.setLastCmd c).polls = s.polls := rfl
@[simp] theorem State.setLastCmd_async (s : State) (c : Command) : (s.setLastCmd c).async = s.async := rfl
@[simp] theorem State.setLastCmd_axis (s : State) (c : Command) (ax : Axis) : (s.setLastCmd c).axis ax = s.axis ax := by
  cases ax <;> rfl

@[simp] theorem State.setTickPending_cfg (s : State) (b : Bool) : (s.setTickPending b).cfg = s.cfg := rfl
@[simp] theorem State.setTickPending_az (s : State) (b : Bool) : (s.setTickPending b).az = s.az := rfl
@[simp] theorem State.setTickPending_el (s : State) (b : Bool) : (s.setTickPending b).el = s.el := rfl
@[simp] theorem State.setTickPending_lastCmd (s : State) (b : Bool) : (s.setTickPending b).lastCmd = s.lastCmd := rfl
@[simp] theorem State.setTickPending_pin (s : State) (b : Bool) : (s.setTickPending b).pin = s.pin := rfl
@[simp] theorem State.setTickPending_duty (s : State) (b : Bool) : (s.setTickPending b).duty = s.duty := rfl
@[simp] theorem State.setTickPending_tickPending (s : State) (b : Bool) : (s.setTickPending b).tickPending = b := rfl
@[simp] theorem State.setTickPending_phase (s : State) (b : Bool) : (s.setTickPending b).phase = s.phase := rfl
@[simp] theorem State.setTickPending_frameBuf (s : State) (b : Bool) : (s.setTickPending b).frameBuf = s.frameBuf := rfl
@[simp] theorem State.setTickPending_trace (s : State) (b : Bool) : (s.setTickPending b).trace = s.trace := rfl
@[simp] theorem State.setTickPending_polls (s : State) (b : Bool) : (s.setTickPending b).polls = s.polls := rfl
@[simp] theorem State.setTickPending_async (s : State) (b : Bool) : (s.setTickPending b).async = s.async := rfl
@[simp] theorem State.setTickPending_axis (s : State) (b : Bool) (ax : Axis) : (s.setTickPending b).axis ax = s.axis ax := by
  cases ax <;> rfl

@[simp] theorem State.setPhase_cfg (s : State) (p : Phase) : (s.setPhase p).cfg = s.cfg := rfl
@[simp] theorem State.setPhase_az (s : State) (p : Phase) : (s.setPhase p).az = s.az := rfl
@[simp] theorem State.setPhase_el (s : State) (p : Phase) : (s.setPhase p).el = s.el := rfl
@[simp] theorem State.setPhase_lastCmd (s : State) (p : Phase) : (s.setPhase p).lastCmd = s.lastCmd := rfl
@[simp] theorem State.setPhase_pin (s : State) (p : Phase) : (s.setPhase p).pin = s.pin := rfl
@[simp] theorem State.setPhase_duty (s : State) (p : Phase) : (s.setPhase p).duty = s.duty := rfl
@[simp] theorem State.setPhase_tickPending (s : State) (p : Phase) : (s.setPhase p).tickPending = s.tickPending := rfl
@[simp] theorem State.setPhase_phase (s : State) (p : Phase) : (s.setPhase p).phase = p := rfl
@[simp] theorem State.setPhase_frameBuf (s : State) (p : Phase) : (s.setPhase p).frameBuf = s.frameBuf := rfl
@[simp] theorem State.setPhase_trace (s : State) (p : Phase) : (s.setPhase p).trace = s.trace := rfl
@[simp] theorem State.setPhase_polls (s : State) (p : Phase) : (s.setPhase p).polls = s.polls := rfl
@[simp] theorem State.setPhase_async (s : State) (p : Phase) : (s.setPhase p).async = s.async := rfl
@[simp] theorem State.setPhase_axis (s : State) (p : Phase) (ax : Axis) : (s.setPhase p).axis ax = s.axis ax := by
  cases ax <;> rfl

@[simp] theorem State.setFrameBuf_cfg (s : State) (f : RawFrame) : (s.setFrameBuf f).cfg = s.cfg := rfl
@[simp] theorem State.setFrameBuf_az (s : State) (f : RawFrame) : (s.setFrameBuf f).az = s.az := rfl
@[simp] theorem State.setFrameBuf_el (s : State) (f : RawFrame) : (s.setFrameBuf f).el = s.el := rfl
@[simp] theorem State.setFrameBuf_lastCmd (s : State) (f : RawFrame) : (s.setFrameBuf f).lastCmd = s.lastCmd := rfl
@[simp] theorem State.setFrameBuf_pin (s : State) (f : RawFrame) : (s.setFrameBuf f).pin = s.pin := rfl
@[simp] theorem State.setFrameBuf_duty (s : State) (f : RawFrame) : (s.setFrameBuf f).duty = s.duty := rfl
@[simp] theorem State.setFrameBuf_tickPending (s : State) (f : RawFrame) : (s.setFrameBuf f).tickPending = s.tickPending := rfl
@[simp] theorem State.setFrameBuf_phase (s : State) (f : RawFrame) : (s.setFrameBuf f).phase = s.phase := rfl
@[simp] theorem State.setFrameBuf_frameBuf (s : State) (f : RawFrame) : (s.setFrameBuf f).frameBuf = some f := rfl
@[simp] theorem State.setFrameBuf_trace (s : State) (f : RawFrame) : (s.setFrameBuf f).trace = s.trace := rfl
@[simp] theorem State.setFrameBuf_polls (s : State) (f : RawFrame) : (s.setFrameBuf f).polls = s.polls := rfl
@[simp] theorem State.setFrameBuf_async (s : State) (f : RawFrame) : (s.setFrameBuf f).async = s.async := rfl
@[simp] theorem State.setFrameBuf_axis (s : State) (f : RawFrame) (ax : Axis) : (s.setFrameBuf f).axis ax = s.axis ax := by
  cases ax <;> rfl

@[simp] theorem State.log_cfg (s : State) (e : Event) : (s.log e).cfg = s.cfg := rfl
@[simp] theorem State.log_az (s : State) (e : Event) : (s.log e).az = s.az := rfl
@[simp] theorem State.log_el (s : State) (e : Event) : (s.log e).el = s.el := rfl
@[simp] theorem State.log_lastCmd (s : State) (e : Event) : (s.log e).lastCmd = s.lastCmd := rfl
@[simp] theorem State.log_pin (s : State) (e : Event) : (s.log e).pin = s.pin := rfl
@[simp] theorem State.log_duty (s : State) (e : Event) : (s.log e).duty = s.duty := rfl
@[simp] theorem State.log_tickPending (s : State) (e : Event) : (s.log e).tickPending = s.tickPending := rfl
@[simp] theorem State.log_phase (s : State) (e : Event) : (s.log e).phase = s.phase := rfl
@[simp] theorem State.log_frameBuf (s : State) (e : Event) : (s.log e).frameBuf = s.frameBuf := rfl
@[simp] theorem State.log_trace (s : State) (e : Event) : (s.log e).trace = s.trace ++ [e] := rfl
@[simp] theorem State.log_polls (s : State) (e : Event) : (s.log e).polls = s.polls := rfl
@[simp] theorem State.log_async (s : State) (e : Event) : (s.log e).async = s.async := rfl
@[simp] theorem State.log_axis (s : State) (e : Event) (ax : Axis) : (s.log e).axis ax = s.axis ax := by
  cases ax <;> rfl

@[simp] theorem State.setPolls_cfg (s : State) (p : List PollInput) : (s.setPolls p).cfg = s.cfg := rfl
@[simp] theorem State.setPolls_az (s : State) (p : List PollInput) : (s.setPolls p).az = s.az := rfl
@[simp] theorem State.setPolls_el (s : State) (p : List PollInput) : (s.setPolls p).el = s.el := rfl
@[simp] theorem State.setPolls_lastCmd (s : State) (p : List PollInput) : (s.setPolls p).lastCmd = s.lastCmd := rfl
@[simp] theorem State.setPolls_pin (s : State) (p : List PollInput) : (s.setPolls p).pin = s.pin := rfl
@[simp] theorem State.setPolls_duty (s : State) (p : List PollInput) : (s.setPolls p).duty = s.duty := rfl
@[simp] theorem State.setPolls_tickPending (s : State) (p : List PollInput) : (s.setPolls p).tickPending = s.tickPending := rfl
@[simp] theorem State.setPolls_phase (s : State) (p : List PollInput) : (s.setPolls p).phase = s.phase := rfl
@[simp] theorem State.setPolls_frameBuf (s : State) (p : List PollInput) : (s.setPolls p).frameBuf = s.frameBuf := rfl
@[simp] theorem State.setPolls_trace (s : State) (p : List PollInput) : (s.setPolls p).trace = s.trace := rfl
@[simp] theorem State.setPolls_polls (s : State) (p : List PollInput) : (s.setPolls p).polls = p := rfl
@[simp] theorem State.setPolls_async (s : State) (p : List PollInput) : (s.setPolls p).async = s.async := rfl
@[simp] theorem State.setPolls_axis (s : State) (p : List PollInput) (ax : Axis) : (s.setPolls p).axis ax = s.axis ax := by
  cases ax <;> rfl

@[simp] theorem State.setAsync_cfg (s : State) (a : List (List AsyncEvent)) : (s.setAsync a).cfg = s.cfg := rfl
@[simp] theorem State.setAsync_az (s : State) (a : List (List AsyncEvent)) : (s.setAsync a).az = s.az := rfl
@[simp] theorem State.setAsync_el (s : State) (a : List (List AsyncEvent)) : (s.setAsync a).el = s.el := rfl
@[simp] theorem State.setAsync_lastCmd (s : State) (a : List (List AsyncEvent)) : (s.setAsync a).lastCmd = s.lastCmd := rfl
@[simp] theorem State.setAsync_pin (s : State) (a : List (List AsyncEvent)) : (s.setAsync a).pin = s.pin := rfl
@[simp] theorem State.setAsync_duty (s : State) (a : List (List AsyncEvent)) : (s.setAsync a).duty = s.duty := rfl
@[simp] theorem State.setAsync_tickPending (s : State) (a : List (List AsyncEvent)) : (s.setAsync a).tickPending = s.tickPending := rfl
@[simp] theorem State.setAsync_phase (s : State) (a : List (List AsyncEvent)) : (s.setAsync a).phase = s.phase := rfl
@[simp] theorem State.setAsync_frameBuf (s : State) (a : List (List AsyncEvent)) : (s.setAsync a).frameBuf = s.frameBuf := rfl
@[simp] theorem State.setAsync_trace (s : State) (a : List (List AsyncEvent)) : (s.setAsync a).trace = s.trace := rfl
@[simp] theorem State.setAsync_polls (s : State) (a : List (List AsyncEvent)) : (s.setAsync a).polls = s.polls := rfl
@[simp] theorem State.setAsync_async (s : State) (a : List (List AsyncEvent)) : (s.setAsync a).async = a := rfl
@[simp] theorem State.setAsync_axis (s : State) (a : List (List AsyncEvent)) (ax : Axis) : (s.setAsync a).axis ax = s.axis ax := by
  cases ax <;> rfl

@[simp] theorem State.setAxis_cfg (s : State) (ax : Axis) (a : AxisState) : (s.setAxis ax a).cfg = s.cfg := by
  cases ax <;> rfl
@[simp] theorem State.setAxis_lastCmd (s : State) (ax : Axis) (a : AxisState) : (s.setAxis ax a).lastCmd = s.lastCmd := by
  cases ax <;> rfl
@[simp] theorem State.setAxis_pin (s : State) (ax : Axis) (a : AxisState) : (s.setAxis ax a).pin = s.pin := by
  cases ax <;> rfl
@[simp] theorem State.setAxis_duty (s : State) (ax : Axis) (a : AxisState) : (s.setAxis ax a).duty = s.duty := by
  cases ax <;> rfl
@[simp] theorem State.setAxis_tickPending (s : State) (ax : Axis) (a : AxisState) : (s.setAxis ax a).tickPending = s.tickPending := by
  cases ax <;> rfl
@[simp] theorem State.setAxis_phase (s : State) (ax : Axis) (a : AxisState) : (s.setAxis ax a).phase = s.phase := by
  cases ax <;> rfl
@[simp] theorem State.setAxis_frameBuf (s : State) (ax : Axis) (a : AxisState) : (s.setAxis ax a).frameBuf = s.frameBuf := by
  cases ax <;> rfl
@[simp] theorem State.setAxis_trace (s : State) (ax : Axis) (a : AxisState) : (s.setAxis ax a).trace = s.trace := by
  cases ax <;> rfl
@[simp] theorem State.setAxis_polls (s : State) (ax : Axis) (a : AxisState) : (s.setAxis ax a).polls = s.polls := by
  cases ax <;> rfl
@[simp] theorem State.setAxis_async (s : State) (ax : Axis) (a : AxisState) : (s.setAxis ax a).async = s.async := by
  cases ax <;> rfl
@[simp] theorem State.setAxis_az_az (s : State) (a : AxisState) : (s.setAxis .az a).az = a := rfl
@[simp] theorem State.setAxis_az_el (s : State) (a : AxisState) : (s.setAxis .az a).el = s.el := rfl
@[simp] theorem State.setAxis_el_el (s : State) (a : AxisState) : (s.setAxis .el a).el = a := rfl
@[simp] theorem State.setAxis_el_az (s : State) (a : AxisState) : (s.setAxis .el a).az = s.az := rfl
@[simp] theorem State.axis_az (s : State) : s.axis .az = s.az := rfl
@[simp] theorem State.axis_el (s : State) : s.axis .el = s.el := rfl
theorem State.axis_setAxis (s : State) (ax ax' : Axis) (a : AxisState) :
    (s.setAxis ax a).axis ax' = if ax' = ax then a else s.axis ax' := by
  cases ax <;> cases ax' <;> rfl
@[simp] theorem State.axis_setAxis_same (s : State) (ax : Axis) (a : AxisState) :
    (s.setAxis ax a).axis ax = a := by
  cases ax <;> rfl

@[simp] theorem State.setPin_cfg (s : State) (p : PinId) (v : Level) : (s.setPin p v).cfg = s.cfg := by
  cases p <;> rfl
@[simp] theorem State.setPin_az (s : State) (p : PinId) (v : Level) : (s.setPin p v).az = s.az := by
  cases p <;> rfl
@[simp] theorem State.setPin_el (s : State) (p : PinId) (v : Level) : (s.setPin p v).el = s.el := by
  cases p <;> rfl
@[simp] theorem State.setPin_lastCmd (s : State) (p : PinId) (v : Level) : (s.setPin p v).lastCmd = s.lastCmd := by
  cases p <;> rfl
@[simp] theorem State.setPin_duty (s : State) (p : PinId) (v : Level) : (s.setPin p v).duty = s.duty := by
  cases p <;> rfl
@[simp] theorem State.setPin_tickPending (s : State) (p : PinId) (v : Level) : (s.setPin p v).tickPending = s.tickPending := by
  cases p <;> rfl
@[simp] theorem State.setPin_phase (s : State) (p : PinId) (v : Level) : (s.setPin p v).phase = s.phase := by
  cases p <;> rfl
@[simp] theorem State.setPin_frameBuf (s : State) (p : PinId) (v : Level) : (s.setPin p v).frameBuf = s.frameBuf := by
  cases p <;> rfl
@[simp] theorem State.setPin_trace (s : State) (p : PinId) (v : Level) : (s.setPin p v).trace = s.trace := by
  cases p <;> rfl
@[simp] theorem State.setPin_polls (s : State) (p : PinId) (v : Level) : (s.setPin p v).polls = s.polls := by
  cases p <;> rfl
@[simp] theorem State.setPin_async (s : State) (p : PinId) (v : Level) : (s.setPin p v).async = s.async := by
  cases p <;> rfl
@[simp] theorem State.setPin_axis (s : State) (p : PinId) (v : Level) (ax : Axis) :
    (s.setPin p v).axis ax = s.axis ax := by
  cases ax <;> simp
@[simp] theorem State.pinOf_setPin_same (s : State) (p : PinId) (v : Level) : (s.setPin p v).pinOf p = v := by
  cases p <;> rfl
theorem State.pinOf_setPin (s : State) (p q : PinId) (v : Level) :
    (s.setPin p v).pinOf q = if q = p then v else s.pinOf q := by
  cases p <;> cases q <;> rfl

@[simp] theorem State.setPin_azDir_pin (s : State) (v : Level) : (s.setPin .azDir v).pin = { s.pin with azDir := v } := rfl
@[simp] theorem State.setPin_elDir_pin (s : State) (v : Level) : (s.setPin .elDir v).pin = { s.pin with elDir := v } := rfl
@[simp] theorem State.setPin_azPul_pin (s : State) (v : Level) : (s.setPin .azPul v).pin = { s.pin with azPul := v } := rfl
@[simp] theorem State.setPin_elPul_pin (s : State) (v : Level) : (s.setPin .elPul v).pin = { s.pin with elPul := v } := rfl
@[simp] theorem State.setPin_ind_pin (s : State) (v : Level) : (s.setPin .ind v).pin = { s.pin with ind := v } := rfl

@[simp] theorem State.setDuty_cfg (s : State) (ax : Axis) (d : Duty) : (s.setDuty ax d).cfg = s.cfg := by
  cases ax <;> rfl
@[simp] theorem State.setDuty_az (s : State) (ax : Axis) (d : Duty) : (s.setDuty ax d).az = s.az := by
  cases ax <;> rfl
@[simp] theorem State.setDuty_el (s : State) (ax : Axis) (d : Duty) : (s.setDuty ax d).el = s.el := by
  cases ax <;> rfl
@[simp] theorem State.setDuty_lastCmd (s : State) (ax : Axis) (d : Duty) : (s.setDuty ax d).lastCmd = s.lastCmd := by
  cases ax <;> rfl
@[simp] theorem State.setDuty_pin (s : State) (ax : Axis) (d : Duty) : (s.setDuty ax d).pin = s.pin := by
  cases ax <;> rfl
@[simp] theorem State.setDuty_tickPending (s : State) (ax : Axis) (d : Duty) : (s.setDuty ax d).tickPending = s.tickPending := by
  cases ax <;> rfl
@[simp] theorem State.setDuty_phase (s : State) (ax : Axis) (d : Duty) : (s.setDuty ax d).phase = s.phase := by
  cases ax <;> rfl
@[simp] theorem State.setDuty_frameBuf (s : State) (ax : Axis) (d : Duty) : (s.setDuty ax d).frameBuf = s.frameBuf := by
  cases ax <;> rfl
@[simp] theorem State.setDuty_trace (s : State) (ax : Axis) (d : Duty) : (s.setDuty ax d).trace = s.trace := by
  cases ax <;> rfl
@[simp] theorem State.setDuty_polls (s : State) (ax : Axis) (d : Duty) : (s.setDuty ax d).polls = s.polls := by
  cases ax <;> rfl
@[simp] theorem State.setDuty_async (s : State) (ax : Axis) (d : Duty) : (s.setDuty ax d).async = s.async := by
  cases ax <;> rfl
@[simp] theorem State.setDuty_axis (s : State) (ax ax' : Axis) (d : Duty) :
    (s.setDuty ax d).axis ax' = s.axis ax' := by
  cases ax' <;> simp
@[simp] theorem State.setDuty_az_duty (s : State) (d : Duty) : (s.setDuty .az d).duty = { s.duty with az := d } := rfl
@[simp] theorem State.setDuty_el_duty (s : State) (d : Duty) : (s.setDuty .el d).duty = { s.duty with el := d } := rfl
@[simp] theorem State.dutyOf_setDuty_same (s : State) (ax : Axis) (d : Duty) : (s.setDuty ax d).dutyOf ax = d := by
  cases ax <;> rfl

@[simp] theorem State.setDirection_cfg (s : State) (ax : Axis) (d : Dir) : (s.setDirection ax d).cfg = s.cfg := by
  cases ax <;> rfl
@[simp] theorem State.setDirection_lastCmd (s : State) (ax : Axis) (d : Dir) : (s.setDirection ax d).lastCmd = s.lastCmd := by
  cases ax <;> rfl
@[simp] theorem State.setDirection_pin (s : State) (ax : Axis) (d : Dir) : (s.setDirection ax d).pin = s.pin := by
  cases ax <;> rfl
@[simp] theorem State.setDirection_duty (s : State) (ax : Axis) (d : Dir) : (s.setDirection ax d).duty = s.duty := by
  cases ax <;> rfl
@[simp] theorem State.setDirection_tickPending (s : State) (ax : Axis) (d : Dir) : (s.setDirection ax d).tickPending = s.tickPending := by
  cases ax <;> rfl
@[simp] theorem State.setDirection_phase (s : State) (ax : Axis) (d : Dir) : (s.setDirection ax d).phase = s.phase := by
  cases ax <;> rfl
@[simp] theorem State.setDirection_frameBuf (s : State) (ax : Axis) (d : Dir) : (s.setDirection ax d).frameBuf = s.frameBuf := by
  cases ax <;> rfl
@[simp] theorem State.setDirection_trace (s : State) (ax : Axis) (d : Dir) : (s.setDirection ax d).trace = s.trace := by
  cases ax <;> rfl
@[simp] theorem State.setDirection_polls (s : State) (ax : Axis) (d : Dir) : (s.setDirection ax d).polls = s.polls := by
  cases ax <;> rfl
@[simp] theorem State.setDirection_async (s : State) (ax : Axis) (d : Dir) : (s.setDirection ax d).async = s.async := by
  cases ax <;> rfl
@[simp] theorem State.setDirection_az_az (s : State) (d : Dir) : (s.setDirection .az d).az = { s.az with direction := d } := rfl
@[simp] theorem State.setDirection_az_el (s : State) (d : Dir) : (s.setDirection .az d).el = s.el := rfl
@[simp] theorem State.setDirection_el_az (s : State) (d : Dir) : (s.setDirection .el d).az = s.az := rfl
@[simp] theorem State.setDirection_el_el (s : State) (d : Dir) : (s.setDirection .el d).el = { s.el with direction := d } := rfl
@[simp] theorem State.setDirection_axis_same (s : State) (ax : Axis) (d : Dir) :
    (s.setDirection ax d).axis ax = { s.axis ax with direction := d } := by
  cases ax <;> rfl

@[simp] theorem State.setEnabled_cfg (s : State) (ax : Axis) (b : Bool) : (s.setEnabled ax b).cfg = s.cfg := by
  cases ax <;> rfl
@[simp] theorem State.setEnabled_lastCmd (s : State) (ax : Axis) (b : Bool) : (s.setEnabled ax b).lastCmd = s.lastCmd := by
  cases ax <;> rfl
@[simp] theorem State.setEnabled_pin (s : State) (ax : Axis) (b : Bool) : (s.setEnabled ax b).pin = s.pin := by
  cases ax <;> rfl
@[simp] theorem State.setEnabled_duty (s : State) (ax : Axis) (b : Bool) : (s.setEnabled ax b).duty = s.duty := by
  cases ax <;> rfl
@[simp] theorem State.setEnabled_tickPending (s : State) (ax : Axis) (b : Bool) : (s.setEnabled ax b).tickPending = s.tickPending := by
  cases ax <;> rfl
@[simp] theorem State.setEnabled_phase (s : State) (ax : Axis) (b : Bool) : (s.setEnabled ax b).phase = s.phase := by
  cases ax <;> rfl
@[simp] theorem State.setEnabled_frameBuf (s : State) (ax : Axis) (b : Bool) : (s.setEnabled ax b).frameBuf = s.frameBuf := by
  cases ax <;> rfl
@[simp] theorem State.setEnabled_trace (s : State) (ax : Axis) (b : Bool) : (s.setEnabled ax b).trace = s.trace := by
  cases ax <;> rfl
@[simp] theorem State.setEnabled_polls (s : State) (ax : Axis) (b : Bool) : (s.setEnabled ax b).polls = s.polls := by
  cases ax <;> rfl
@[simp] theorem State.setEnabled_async (s : State) (ax : Axis) (b : Bool) : (s.setEnabled ax b).async = s.async := by
  cases ax <;> rfl
@[simp] theorem State.setEnabled_az_az (s : State) (b : Bool) : (s.setEnabled .az b).az = { s.az with enabled := b } := rfl
@[simp] theorem State.setEnabled_az_el (s : State) (b : Bool) : (s.setEnabled .az b).el = s.el := rfl
@[simp] theorem State.setEnabled_el_az (s : State) (b : Bool) : (s.setEnabled .el b).az = s.az := rfl
@[simp] theorem State.setEnabled_el_el (s : State) (b : Bool) : (s.setEnabled .el b).el = { s.el with enabled := b } := rfl
@[simp] theorem State.setEnabled_axis_same (s : State) (ax : Axis) (b : Bool) :
    (s.setEnabled ax b).axis ax = { s.axis ax with enabled := b } := by
  cases ax <;> rfl

@[simp] theorem State.setAngle_cfg (s : State) (ax : Axis) (a : Angle) : (s.setAngle ax a).cfg = s.cfg := by
  cases ax <;> rfl
@[simp] theorem State.setAngle_lastCmd (s : State) (ax : Axis) (a : Angle) : (s.setAngle ax a).lastCmd = s.lastCmd := by
  cases ax <;> rfl
@[simp] theorem State.setAngle_pin (s : State) (ax : Axis) (a : Angle) : (s.setAngle ax a).pin = s.pin := by
  cases ax <;> rfl
@[simp] theorem State.setAngle_duty (s : State) (ax : Axis) (a : Angle) : (s.setAngle ax a).duty = s.duty := by
  cases ax <;> rfl
@[simp] theorem State.setAngle_tickPending (s : State) (ax : Axis) (a : Angle) : (s.setAngle ax a).tickPending = s.tickPending := by
  cases ax <;> rfl
@[simp] theorem State.setAngle_phase (s : State) (ax : Axis) (a : Angle) : (s.setAngle ax a).phase = s.phase := by
  cases ax <;> rfl
@[simp] theorem State.setAngle_frameBuf (s : State) (ax : Axis) (a : Angle) : (s.setAngle ax a).frameBuf = s.frameBuf := by
  cases ax <;> rfl
@[simp] theorem State.setAngle_trace (s : State) (ax : Axis) (a : Angle) : (s.setAngle ax a).trace = s.trace := by
  cases ax <;> rfl
@[simp] theorem State.setAngle_polls (s : State) (ax : Axis) (a : Angle) : (s.setAngle ax a).polls = s.polls := by
  cases ax <;> rfl
@[simp] theorem State.setAngle_async (s : State) (ax : Axis) (a : Angle) : (s.setAngle ax a).async = s.async := by
  cases ax <;> rfl
@[simp] theorem State.setAngle_az_az (s : State) (a : Angle) : (s.setAngle .az a).az = { s.az with angle := a } := rfl
@[simp] theorem State.setAngle_az_el (s : State) (a : Angle) : (s.setAngle .az a).el = s.el := rfl
@[simp] theorem State.setAngle_el_az (s : State) (a : Angle) : (s.setAngle .el a).az = s.az := rfl
@[simp] theorem State.setAngle_el_el (s : State) (a : Angle) : (s.setAngle .el a).el = { s.el with angle := a } := rfl
@[simp] theorem State.setAngle_axis_same (s : State) (ax : Axis) (a : Angle) :
    (s.setAngle ax a).axis ax = { s.axis ax with angle := a } := by
  cases ax <;> rfl

@[simp] theorem State.resetWith_cfg (c : Cfg) : (State.resetWith c).cfg = c := rfl
@[simp] theorem State.resetWith_az (c : Cfg) : (State.resetWith c).az = AxisState.atReset (c.speedParam .az) c.azInit := rfl
@[simp] theorem State.resetWith_el (c : Cfg) : (State.resetWith c).el = AxisState.atReset (c.speedParam .el) c.elInit := rfl
@[simp] theorem State.resetWith_lastCmd (c : Cfg) : (State.resetWith c).lastCmd = none := rfl
@[simp] theorem State.resetWith_pin (c : Cfg) : (State.resetWith c).pin = ⟨.low, .low, .low, .low, .low⟩ := rfl
@[simp] theorem State.resetWith_duty (c : Cfg) : (State.resetWith c).duty = ⟨0, 0⟩ := rfl
@[simp] theorem State.resetWith_tickPending (c : Cfg) : (State.resetWith c).tickPending = false := rfl
@[simp] theorem State.resetWith_phase (c : Cfg) : (State.resetWith c).phase = .poll := rfl
@[simp] theorem State.resetWith_frameBuf (c : Cfg) : (State.resetWith c).frameBuf = none := rfl
@[simp] theorem State.resetWith_trace (c : Cfg) : (State.resetWith c).trace = [] := rfl
@[simp] theorem State.resetWith_polls (c : Cfg) : (State.resetWith c).polls = [] := rfl
@[simp] theorem State.resetWith_async (c : Cfg) : (State.resetWith c).async = [] := rfl

end Sys2Proof.Machine
end

