-- ==== Sys2Proof/Laws/Ops.lean ====
section
/-! SUPPORT. One lemma per shared operation saying all it can do, and what each leaves alone. -/

namespace Sys2Proof.Machine

@[simp] theorem pinWrite_cfg (p : PinId) (v : Level) (s : State) : (pinWrite p v s).cfg = s.cfg := by
  simp [pinWrite]
@[simp] theorem pinWrite_az (p : PinId) (v : Level) (s : State) : (pinWrite p v s).az = s.az := by
  simp [pinWrite]
@[simp] theorem pinWrite_el (p : PinId) (v : Level) (s : State) : (pinWrite p v s).el = s.el := by
  simp [pinWrite]
@[simp] theorem pinWrite_lastCmd (p : PinId) (v : Level) (s : State) : (pinWrite p v s).lastCmd = s.lastCmd := by
  simp [pinWrite]
@[simp] theorem pinWrite_duty (p : PinId) (v : Level) (s : State) : (pinWrite p v s).duty = s.duty := by
  simp [pinWrite]
@[simp] theorem pinWrite_tickPending (p : PinId) (v : Level) (s : State) : (pinWrite p v s).tickPending = s.tickPending := by
  simp [pinWrite]
@[simp] theorem pinWrite_phase (p : PinId) (v : Level) (s : State) : (pinWrite p v s).phase = s.phase := by
  simp [pinWrite]
@[simp] theorem pinWrite_frameBuf (p : PinId) (v : Level) (s : State) : (pinWrite p v s).frameBuf = s.frameBuf := by
  simp [pinWrite]
@[simp] theorem pinWrite_polls (p : PinId) (v : Level) (s : State) : (pinWrite p v s).polls = s.polls := by
  simp [pinWrite]
@[simp] theorem pinWrite_async (p : PinId) (v : Level) (s : State) : (pinWrite p v s).async = s.async := by
  simp [pinWrite]
@[simp] theorem pinWrite_trace (p : PinId) (v : Level) (s : State) :
    (pinWrite p v s).trace = s.trace ++ [.pinWrite p v] := by
  simp [pinWrite]
@[simp] theorem pinWrite_pin (p : PinId) (v : Level) (s : State) :
    (pinWrite p v s).pin = (s.setPin p v).pin := rfl
@[simp] theorem pinWrite_axis (p : PinId) (v : Level) (s : State) (ax : Axis) :
    (pinWrite p v s).axis ax = s.axis ax := by
  simp [pinWrite]

@[simp] theorem dutyWrite_cfg (ax : Axis) (d : Duty) (s : State) : (dutyWrite ax d s).cfg = s.cfg := by
  simp [dutyWrite]
@[simp] theorem dutyWrite_az (ax : Axis) (d : Duty) (s : State) : (dutyWrite ax d s).az = s.az := by
  simp [dutyWrite]
@[simp] theorem dutyWrite_el (ax : Axis) (d : Duty) (s : State) : (dutyWrite ax d s).el = s.el := by
  simp [dutyWrite]
@[simp] theorem dutyWrite_lastCmd (ax : Axis) (d : Duty) (s : State) : (dutyWrite ax d s).lastCmd = s.lastCmd := by
  simp [dutyWrite]
@[simp] theorem dutyWrite_pin (ax : Axis) (d : Duty) (s : State) : (dutyWrite ax d s).pin = s.pin := by
  simp [dutyWrite]
@[simp] theorem dutyWrite_tickPending (ax : Axis) (d : Duty) (s : State) : (dutyWrite ax d s).tickPending = s.tickPending := by
  simp [dutyWrite]
@[simp] theorem dutyWrite_phase (ax : Axis) (d : Duty) (s : State) : (dutyWrite ax d s).phase = s.phase := by
  simp [dutyWrite]
@[simp] theorem dutyWrite_frameBuf (ax : Axis) (d : Duty) (s : State) : (dutyWrite ax d s).frameBuf = s.frameBuf := by
  simp [dutyWrite]
@[simp] theorem dutyWrite_polls (ax : Axis) (d : Duty) (s : State) : (dutyWrite ax d s).polls = s.polls := by
  simp [dutyWrite]
@[simp] theorem dutyWrite_async (ax : Axis) (d : Duty) (s : State) : (dutyWrite ax d s).async = s.async := by
  simp [dutyWrite]
@[simp] theorem dutyWrite_trace (ax : Axis) (d : Duty) (s : State) :
    (dutyWrite ax d s).trace = s.trace ++ [.dutyWrite ax d] := by
  simp [dutyWrite]
@[simp] theorem dutyWrite_duty (ax : Axis) (d : Duty) (s : State) :
    (dutyWrite ax d s).duty = (s.setDuty ax d).duty := rfl
@[simp] theorem dutyWrite_axis (ax ax' : Axis) (d : Duty) (s : State) :
    (dutyWrite ax d s).axis ax' = s.axis ax' := by
  simp [dutyWrite]

@[simp] theorem delayUs_cfg (n : Nat) (s : State) : (delayUs n s).cfg = s.cfg := by
  rfl
@[simp] theorem delayUs_az (n : Nat) (s : State) : (delayUs n s).az = s.az := by
  rfl
@[simp] theorem delayUs_el (n : Nat) (s : State) : (delayUs n s).el = s.el := by
  rfl
@[simp] theorem delayUs_lastCmd (n : Nat) (s : State) : (delayUs n s).lastCmd = s.lastCmd := by
  rfl
@[simp] theorem delayUs_pin (n : Nat) (s : State) : (delayUs n s).pin = s.pin := by
  rfl
@[simp] theorem delayUs_duty (n : Nat) (s : State) : (delayUs n s).duty = s.duty := by
  rfl
@[simp] theorem delayUs_tickPending (n : Nat) (s : State) : (delayUs n s).tickPending = s.tickPending := by
  rfl
@[simp] theorem delayUs_phase (n : Nat) (s : State) : (delayUs n s).phase = s.phase := by
  rfl
@[simp] theorem delayUs_frameBuf (n : Nat) (s : State) : (delayUs n s).frameBuf = s.frameBuf := by
  rfl
@[simp] theorem delayUs_polls (n : Nat) (s : State) : (delayUs n s).polls = s.polls := by
  rfl
@[simp] theorem delayUs_async (n : Nat) (s : State) : (delayUs n s).async = s.async := by
  rfl
@[simp] theorem delayUs_trace (n : Nat) (s : State) : (delayUs n s).trace = s.trace ++ [.delay n] := rfl
@[simp] theorem delayUs_axis (n : Nat) (s : State) (ax : Axis) : (delayUs n s).axis ax = s.axis ax := by
  cases ax <;> rfl

@[simp] theorem emitResp_cfg (l : List Byte) (s : State) : (emitResp l s).cfg = s.cfg := by
  rfl
@[simp] theorem emitResp_az (l : List Byte) (s : State) : (emitResp l s).az = s.az := by
  rfl
@[simp] theorem emitResp_el (l : List Byte) (s : State) : (emitResp l s).el = s.el := by
  rfl
@[simp] theorem emitResp_lastCmd (l : List Byte) (s : State) : (emitResp l s).lastCmd = s.lastCmd := by
  rfl
@[simp] theorem emitResp_pin (l : List Byte) (s : State) : (emitResp l s).pin = s.pin := by
  rfl
@[simp] theorem emitResp_duty (l : List Byte) (s : State) : (emitResp l s).duty = s.duty := by
  rfl
@[simp] theorem emitResp_tickPending (l : List Byte) (s : State) : (emitResp l s).tickPending = s.tickPending := by
  rfl
@[simp] theorem emitResp_phase (l : List Byte) (s : State) : (emitResp l s).phase = s.phase := by
  rfl
@[simp] theorem emitResp_frameBuf (l : List Byte) (s : State) : (emitResp l s).frameBuf = s.frameBuf := by
  rfl
@[simp] theorem emitResp_polls (l : List Byte) (s : State) : (emitResp l s).polls = s.polls := by
  rfl
@[simp] theorem emitResp_async (l : List Byte) (s : State) : (emitResp l s).async = s.async := by
  rfl
@[simp] theorem emitResp_trace (l : List Byte) (s : State) : (emitResp l s).trace = s.trace ++ [.resp l] := rfl

@[simp] theorem raiseError_cfg (e : Error) (info : ErrorInfo) (s : State) : (raiseError e info s).cfg = s.cfg := by
  cases e <;> rfl
@[simp] theorem raiseError_az (e : Error) (info : ErrorInfo) (s : State) : (raiseError e info s).az = s.az := by
  cases e <;> rfl
@[simp] theorem raiseError_el (e : Error) (info : ErrorInfo) (s : State) : (raiseError e info s).el = s.el := by
  cases e <;> rfl
@[simp] theorem raiseError_lastCmd (e : Error) (info : ErrorInfo) (s : State) : (raiseError e info s).lastCmd = s.lastCmd := by
  cases e <;> rfl
@[simp] theorem raiseError_pin (e : Error) (info : ErrorInfo) (s : State) : (raiseError e info s).pin = s.pin := by
  cases e <;> rfl
@[simp] theorem raiseError_duty (e : Error) (info : ErrorInfo) (s : State) : (raiseError e info s).duty = s.duty := by
  cases e <;> rfl
@[simp] theorem raiseError_tickPending (e : Error) (info : ErrorInfo) (s : State) : (raiseError e info s).tickPending = s.tickPending := by
  cases e <;> rfl
@[simp] theorem raiseError_phase (e : Error) (info : ErrorInfo) (s : State) : (raiseError e info s).phase = s.phase := by
  cases e <;> rfl
@[simp] theorem raiseError_frameBuf (e : Error) (info : ErrorInfo) (s : State) : (raiseError e info s).frameBuf = s.frameBuf := by
  cases e <;> rfl
@[simp] theorem raiseError_polls (e : Error) (info : ErrorInfo) (s : State) : (raiseError e info s).polls = s.polls := by
  cases e <;> rfl
@[simp] theorem raiseError_async (e : Error) (info : ErrorInfo) (s : State) : (raiseError e info s).async = s.async := by
  cases e <;> rfl
/-- A raise appends one diagnostic, or for a disconnect nothing. -/
theorem raiseError_trace (e : Error) (info : ErrorInfo) (s : State) :
    (raiseError e info s).trace =
      s.trace ++ (if e = .transportDisconnected then [] else [.diag e info]) := by
  cases e <;> simp [raiseError]

@[simp] theorem setRun_cfg (ax : Axis) (d : Dir) (s : State) : (setRun ax d s).cfg = s.cfg := by
  simp only [setRun]; split <;> simp
@[simp] theorem setRun_lastCmd (ax : Axis) (d : Dir) (s : State) : (setRun ax d s).lastCmd = s.lastCmd := by
  simp only [setRun]; split <;> simp
@[simp] theorem setRun_tickPending (ax : Axis) (d : Dir) (s : State) : (setRun ax d s).tickPending = s.tickPending := by
  simp only [setRun]; split <;> simp
@[simp] theorem setRun_phase (ax : Axis) (d : Dir) (s : State) : (setRun ax d s).phase = s.phase := by
  simp only [setRun]; split <;> simp
@[simp] theorem setRun_frameBuf (ax : Axis) (d : Dir) (s : State) : (setRun ax d s).frameBuf = s.frameBuf := by
  simp only [setRun]; split <;> simp
@[simp] theorem setRun_polls (ax : Axis) (d : Dir) (s : State) : (setRun ax d s).polls = s.polls := by
  simp only [setRun]; split <;> simp
@[simp] theorem setRun_async (ax : Axis) (d : Dir) (s : State) : (setRun ax d s).async = s.async := by
  simp only [setRun]; split <;> simp
theorem setRun_az_hwPwm {s : State} (d : Dir) (h : s.cfg.strategy = .hwPwm) :
    setRun .az d s =
      { s with
        az := { s.az with direction := d, enabled := true }
        pin := { s.pin with azDir := dirLevel d }
        duty := { s.duty with az := s.cfg.dutyOn }
        trace := s.trace ++ [.pinWrite .azDir (dirLevel d), .dutyWrite .az s.cfg.dutyOn] } := by
  simp [setRun, h, pinWrite, dutyWrite, dirPin, State.setEnabled, State.setDirection, State.setAxis, State.axis,
    State.setPin, State.setDuty, State.log]

theorem setRun_az_busyWait {s : State} (d : Dir) (h : s.cfg.strategy = .busyWait) :
    setRun .az d s =
      { s with
        az := { s.az with direction := d, enabled := true }
        pin := { s.pin with azDir := dirLevel d }
        trace := s.trace ++ [.pinWrite .azDir (dirLevel d)] } := by
  simp [setRun, h, pinWrite, dirPin, State.setEnabled, State.setDirection, State.setAxis, State.axis,
    State.setPin, State.log]

theorem setRun_el_hwPwm {s : State} (d : Dir) (h : s.cfg.strategy = .hwPwm) :
    setRun .el d s =
      { s with
        el := { s.el with direction := d, enabled := true }
        pin := { s.pin with elDir := dirLevel d }
        duty := { s.duty with el := s.cfg.dutyOn }
        trace := s.trace ++ [.pinWrite .elDir (dirLevel d), .dutyWrite .el s.cfg.dutyOn] } := by
  simp [setRun, h, pinWrite, dutyWrite, dirPin, State.setEnabled, State.setDirection, State.setAxis, State.axis,
    State.setPin, State.setDuty, State.log]

theorem setRun_el_busyWait {s : State} (d : Dir) (h : s.cfg.strategy = .busyWait) :
    setRun .el d s =
      { s with
        el := { s.el with direction := d, enabled := true }
        pin := { s.pin with elDir := dirLevel d }
        trace := s.trace ++ [.pinWrite .elDir (dirLevel d)] } := by
  simp [setRun, h, pinWrite, dirPin, State.setEnabled, State.setDirection, State.setAxis, State.axis,
    State.setPin, State.log]

@[simp] theorem setIdle_cfg (ax : Axis) (s : State) : (setIdle ax s).cfg = s.cfg := by
  simp only [setIdle]; split <;> simp
@[simp] theorem setIdle_lastCmd (ax : Axis) (s : State) : (setIdle ax s).lastCmd = s.lastCmd := by
  simp only [setIdle]; split <;> simp
@[simp] theorem setIdle_tickPending (ax : Axis) (s : State) : (setIdle ax s).tickPending = s.tickPending := by
  simp only [setIdle]; split <;> simp
@[simp] theorem setIdle_phase (ax : Axis) (s : State) : (setIdle ax s).phase = s.phase := by
  simp only [setIdle]; split <;> simp
@[simp] theorem setIdle_frameBuf (ax : Axis) (s : State) : (setIdle ax s).frameBuf = s.frameBuf := by
  simp only [setIdle]; split <;> simp
@[simp] theorem setIdle_polls (ax : Axis) (s : State) : (setIdle ax s).polls = s.polls := by
  simp only [setIdle]; split <;> simp
@[simp] theorem setIdle_async (ax : Axis) (s : State) : (setIdle ax s).async = s.async := by
  simp only [setIdle]; split <;> simp
theorem setIdle_az_hwPwm {s : State} (h : s.cfg.strategy = .hwPwm) :
    setIdle .az s =
      { s with
        az := { s.az with enabled := false }
        duty := { s.duty with az := 0 }
        trace := s.trace ++ [.dutyWrite .az 0] } := by
  simp [setIdle, h, dutyWrite, State.setEnabled, State.setAxis, State.axis, State.setDuty, State.log]

theorem setIdle_az_busyWait {s : State} (h : s.cfg.strategy = .busyWait) :
    setIdle .az s =
      { s with
        az := { s.az with enabled := false }
        pin := { s.pin with azPul := .low }
        trace := s.trace ++ [.pinWrite .azPul .low] } := by
  simp [setIdle, h, pinWrite, pulPin, State.setEnabled, State.setAxis, State.axis, State.setPin, State.log]

theorem setIdle_el_hwPwm {s : State} (h : s.cfg.strategy = .hwPwm) :
    setIdle .el s =
      { s with
        el := { s.el with enabled := false }
        duty := { s.duty with el := 0 }
        trace := s.trace ++ [.dutyWrite .el 0] } := by
  simp [setIdle, h, dutyWrite, State.setEnabled, State.setAxis, State.axis, State.setDuty, State.log]

theorem setIdle_el_busyWait {s : State} (h : s.cfg.strategy = .busyWait) :
    setIdle .el s =
      { s with
        el := { s.el with enabled := false }
        pin := { s.pin with elPul := .low }
        trace := s.trace ++ [.pinWrite .elPul .low] } := by
  simp [setIdle, h, pinWrite, pulPin, State.setEnabled, State.setAxis, State.axis, State.setPin, State.log]

@[simp] theorem updateInd_cfg (s : State) : (updateInd s).cfg = s.cfg := by
  simp [updateInd]
@[simp] theorem updateInd_az (s : State) : (updateInd s).az = s.az := by
  simp [updateInd]
@[simp] theorem updateInd_el (s : State) : (updateInd s).el = s.el := by
  simp [updateInd]
@[simp] theorem updateInd_lastCmd (s : State) : (updateInd s).lastCmd = s.lastCmd := by
  simp [updateInd]
@[simp] theorem updateInd_duty (s : State) : (updateInd s).duty = s.duty := by
  simp [updateInd]
@[simp] theorem updateInd_tickPending (s : State) : (updateInd s).tickPending = s.tickPending := by
  simp [updateInd]
@[simp] theorem updateInd_phase (s : State) : (updateInd s).phase = s.phase := by
  simp [updateInd]
@[simp] theorem updateInd_frameBuf (s : State) : (updateInd s).frameBuf = s.frameBuf := by
  simp [updateInd]
@[simp] theorem updateInd_polls (s : State) : (updateInd s).polls = s.polls := by
  simp [updateInd]
@[simp] theorem updateInd_async (s : State) : (updateInd s).async = s.async := by
  simp [updateInd]
theorem updateInd_eq (s : State) :
    updateInd s = { s with pin := { s.pin with ind := indLevel s }, trace := s.trace ++ [.pinWrite .ind (indLevel s)] } :=
  rfl

@[simp] theorem echo_cfg (src : Format) (c : Command) (s : State) : (echo src c s).cfg = s.cfg := by
  unfold echo; split <;> [rfl; (split <;> rfl)]
@[simp] theorem echo_az (src : Format) (c : Command) (s : State) : (echo src c s).az = s.az := by
  unfold echo; split <;> [rfl; (split <;> rfl)]
@[simp] theorem echo_el (src : Format) (c : Command) (s : State) : (echo src c s).el = s.el := by
  unfold echo; split <;> [rfl; (split <;> rfl)]
@[simp] theorem echo_lastCmd (src : Format) (c : Command) (s : State) : (echo src c s).lastCmd = s.lastCmd := by
  unfold echo; split <;> [rfl; (split <;> rfl)]
@[simp] theorem echo_pin (src : Format) (c : Command) (s : State) : (echo src c s).pin = s.pin := by
  unfold echo; split <;> [rfl; (split <;> rfl)]
@[simp] theorem echo_duty (src : Format) (c : Command) (s : State) : (echo src c s).duty = s.duty := by
  unfold echo; split <;> [rfl; (split <;> rfl)]
@[simp] theorem echo_tickPending (src : Format) (c : Command) (s : State) : (echo src c s).tickPending = s.tickPending := by
  unfold echo; split <;> [rfl; (split <;> rfl)]
@[simp] theorem echo_phase (src : Format) (c : Command) (s : State) : (echo src c s).phase = s.phase := by
  unfold echo; split <;> [rfl; (split <;> rfl)]
@[simp] theorem echo_frameBuf (src : Format) (c : Command) (s : State) : (echo src c s).frameBuf = s.frameBuf := by
  unfold echo; split <;> [rfl; (split <;> rfl)]
@[simp] theorem echo_polls (src : Format) (c : Command) (s : State) : (echo src c s).polls = s.polls := by
  unfold echo; split <;> [rfl; (split <;> rfl)]
@[simp] theorem echo_async (src : Format) (c : Command) (s : State) : (echo src c s).async = s.async := by
  unfold echo; split <;> [rfl; (split <;> rfl)]
@[simp] theorem echo_binary (c : Command) (s : State) : echo .binary c s = s := rfl
theorem echo_text {c : Command} {n : Nat} (h : codeOf c = some n) (s : State) :
    echo .text c s = emitResp (echoLine n) s := by
  simp [echo, h]

theorem acceptMotion_duplicate {c : Command} {s : State} (a : State) (h : s.lastCmd = some c) :
    acceptMotion c s a = s := by
  simp [acceptMotion, h]
theorem acceptMotion_applied {c : Command} {s : State} (a : State) (h : s.lastCmd ≠ some c) :
    acceptMotion c s a = a.setLastCmd c := by
  simp [acceptMotion, h]

theorem acceptMotion_cfg {c : Command} {s a : State} (h : a.cfg = s.cfg) :
    (acceptMotion c s a).cfg = s.cfg := by
  unfold acceptMotion; split <;> simp [h]
theorem acceptMotion_tickPending {c : Command} {s a : State} (h : a.tickPending = s.tickPending) :
    (acceptMotion c s a).tickPending = s.tickPending := by
  unfold acceptMotion; split <;> simp [h]
theorem acceptMotion_phase {c : Command} {s a : State} (h : a.phase = s.phase) :
    (acceptMotion c s a).phase = s.phase := by
  unfold acceptMotion; split <;> simp [h]
theorem acceptMotion_frameBuf {c : Command} {s a : State} (h : a.frameBuf = s.frameBuf) :
    (acceptMotion c s a).frameBuf = s.frameBuf := by
  unfold acceptMotion; split <;> simp [h]
theorem acceptMotion_polls {c : Command} {s a : State} (h : a.polls = s.polls) :
    (acceptMotion c s a).polls = s.polls := by
  unfold acceptMotion; split <;> simp [h]
theorem acceptMotion_async {c : Command} {s a : State} (h : a.async = s.async) :
    (acceptMotion c s a).async = s.async := by
  unfold acceptMotion; split <;> simp [h]

end Sys2Proof.Machine
end

