-- ==== Sys2Proof/Laws/Exec.lean ====
section
/-! SUPPORT. What every instruction does, said once: it completes, and the fields no command writes. -/

namespace Sys2Proof.Machine

/-- Every instruction ends in a next state. -/
theorem exec_completes (i : Instr) (s : State) : ∃ t, exec i s = .next t := by
  cases i <;> exact ⟨_, rfl⟩

/-- The fields that no command writes (10_state.md R12, R21 to R23; 20_memory.md R40). -/
structure SameFrame (s t : State) : Prop where
  cfg : t.cfg = s.cfg
  tickPending : t.tickPending = s.tickPending
  phase : t.phase = s.phase
  frameBuf : t.frameBuf = s.frameBuf
  polls : t.polls = s.polls
  async : t.async = s.async

theorem SameFrame.refl (s : State) : SameFrame s s := ⟨rfl, rfl, rfl, rfl, rfl, rfl⟩

theorem acceptMotion_sameFrame {c : Command} {s a : State} (h : SameFrame s a) :
    SameFrame s (acceptMotion c s a) :=
  ⟨acceptMotion_cfg h.cfg, acceptMotion_tickPending h.tickPending, acceptMotion_phase h.phase,
    acceptMotion_frameBuf h.frameBuf, acceptMotion_polls h.polls, acceptMotion_async h.async⟩

theorem applyStop_sameFrame (src : Format) (s : State) : SameFrame s (applyStop src s) := by
  constructor <;> simp [applyStop]

theorem applyStopAzOnly_sameFrame (src : Format) (s : State) : SameFrame s (applyStopAzOnly src s) := by
  constructor <;> simp [applyStopAzOnly]

theorem applyStopElOnly_sameFrame (src : Format) (s : State) : SameFrame s (applyStopElOnly src s) := by
  constructor <;> simp [applyStopElOnly]

theorem applyRotate_sameFrame (src : Format) (c : Command) (ax : Axis) (d : Dir) (s : State) :
    SameFrame s (applyRotate src c ax d s) := by
  constructor <;> simp [applyRotate]

theorem applyRotateBoth_sameFrame (src : Format) (a e : Dir) (s : State) :
    SameFrame s (applyRotateBoth src a e s) := by
  constructor <;> simp [applyRotateBoth]

theorem acceptStop_sameFrame (src : Format) (s : State) : SameFrame s (acceptStop src s) := by
  constructor <;> simp [acceptStop, applyStop]

/-- An instruction leaves the configuration, the pending tick, the phase, the frame buffer and the inputs to
come as they are. -/
theorem exec_sameFrame {i : Instr} {s t : State} (h : exec i s = .next t) : SameFrame s t := by
  cases i <;> cases h
  case stop | stop1 | tS => exact acceptStop_sameFrame _ _
  case tA => exact acceptMotion_sameFrame (applyStopAzOnly_sameFrame _ _)
  case tE => exact acceptMotion_sameFrame (applyStopElOnly_sameFrame _ _)
  case azf | azb | elf | elb | tR | tL | tU | tD => exact acceptMotion_sameFrame (applyRotate_sameFrame _ _ _ _ _)
  case lu | ru | ld | rd => exact acceptMotion_sameFrame (applyRotateBoth_sameFrame _ _ _ _)
  case tC | tB | tC2 => exact ⟨rfl, rfl, rfl, rfl, rfl, rfl⟩

/-- What an instruction is, as the accept of its command from its format. -/
theorem exec_eq (i : Instr) (s : State) :
    exec i s = .next
      (match i.command with
       | .stop => acceptStop i.src s
       | .stopAzOnly => acceptMotion .stopAzOnly s (applyStopAzOnly i.src s)
       | .stopElOnly => acceptMotion .stopElOnly s (applyStopElOnly i.src s)
       | .rotateAz d => acceptRotateAz i.src d s
       | .rotateEl d => acceptRotateEl i.src d s
       | .rotateBoth a e => acceptRotateBoth i.src a e s
       | .queryAz => replyAz s
       | .queryEl => replyEl s
       | .queryBoth => replyEl (replyAz s)
       | .unknown _ => s) := by
  cases i <;> rfl

end Sys2Proof.Machine
end

