-- ==== Sys2Proof/Laws/Loop.lean ====
section
/-! SUPPORT. What the phases, the events between steps and a step can do. -/

namespace Sys2Proof.Machine

@[simp] theorem thenPhase_next (p : Phase) (s : State) : thenPhase p (.next s) = .next (s.setPhase p) := rfl

/-- Taking a frame always ends in a next state. -/
theorem acceptFrame_completes (f : RawFrame) (s : State) : ∃ t, acceptFrame f s = .next t := by
  unfold acceptFrame
  split
  · exact exec_completes _ _
  · exact ⟨_, rfl⟩
  · exact ⟨_, rfl⟩

/-- What taking a frame can do: run the instruction it decodes to, or raise one error. -/
theorem acceptFrame_cases {f : RawFrame} {s t : State} (h : acceptFrame f s = .next t) :
    (∃ i, decode s.cfg f = .instr i ∧ exec i s = .next t) ∨
    (∃ info, decode s.cfg f = .unknown info ∧ t = raiseError .unknownCommandCode (.unknown info) s) ∨
    (∃ e info, decode s.cfg f = .invalid e info ∧ t = raiseError e info s) := by
  unfold acceptFrame at h
  split at h
  · exact .inl ⟨_, ‹_›, h⟩
  · exact .inr (.inl ⟨_, ‹_›, by cases h; rfl⟩)
  · exact .inr (.inr ⟨_, _, ‹_›, by cases h; rfl⟩)

/-- What a POLL phase can do. -/
theorem pollPhase_cases {rx : Option RawFrame} {disc : Bool} {s t : State}
    (h : pollPhase rx disc s = .next t) :
    ((disc = true ∨ rx = none) ∧ t = s.setPhase .pulse) ∨
    (∃ f u, disc = false ∧ rx = some f ∧ acceptFrame f (s.setFrameBuf f) = .next u ∧ t = u.setPhase .pulse) := by
  cases disc with
  | true => exact .inl ⟨.inl rfl, by cases h; rfl⟩
  | false =>
    cases rx with
    | none => exact .inl ⟨.inr rfl, by cases h; rfl⟩
    | some f =>
      obtain ⟨u, hu⟩ := acceptFrame_completes f (s.setFrameBuf f)
      refine .inr ⟨f, u, rfl, rfl, hu, ?_⟩
      simp only [pollPhase, hu, Bool.false_eq_true, if_false, thenPhase_next, Host.Outcome.next.injEq] at h
      exact h.symm

theorem pollPhase_completes (rx : Option RawFrame) (disc : Bool) (s : State) :
    ∃ t, pollPhase rx disc s = .next t := by
  unfold pollPhase
  split
  · exact ⟨_, rfl⟩
  · split
    · exact ⟨_, rfl⟩
    · rename_i f
      obtain ⟨u, hu⟩ := acceptFrame_completes f (s.setFrameBuf f)
      exact ⟨u.setPhase .pulse, by rw [hu]; rfl⟩

/-- What a step can do. -/
theorem step_cases {s t : State} (h : step s = .next t) :
    s.cfg.legal = true ∧
    (((takeAsync s).phase = .poll ∧ runPoll (takeAsync s) = .next t) ∨
     ((takeAsync s).phase = .pulse ∧ t = pulsePhase (takeAsync s)) ∨
     ((takeAsync s).phase = .tick ∧ t = tickPhase (takeAsync s)) ∨
     ((takeAsync s).phase = .status ∧ t = statusPhase (takeAsync s))) := by
  unfold step at h
  split at h
  · refine ⟨‹_›, ?_⟩
    unfold runPhase at h
    split at h
    · exact .inl ⟨‹_›, h⟩
    · exact .inr (.inl ⟨‹_›, by cases h; rfl⟩)
    · exact .inr (.inr (.inl ⟨‹_›, by cases h; rfl⟩))
    · exact .inr (.inr (.inr ⟨‹_›, by cases h; rfl⟩))
  · cases h

theorem runPhase_completes (s : State) : ∃ t, runPhase s = .next t := by
  unfold runPhase
  split
  · exact pollPhase_completes _ _ _
  all_goals exact ⟨_, rfl⟩

theorem runSteps_next {k : Nat} {s t : State} (h : step s = .next t) : runSteps (k + 1) s = runSteps k t := by
  simp [runSteps, h]

theorem run_of_step_next {M : Host.Core} {k : Nat} {s t : M.State} (h : M.step s = .next t) :
    M.run (k + 1) s = M.run k t := by
  simp [Host.Core.run, h]

theorem run_of_step_refused {M : Host.Core} {k : Nat} {s : M.State} {r : M.Refusal}
    (h : M.step s = .refused r) : M.run (k + 1) s = .refused r := by
  simp [Host.Core.run, h]

/-- `runSteps` is the host's run of this machine. -/
theorem runSteps_eq_run (k : Nat) (s : State) : runSteps k s = Sys2Proof.core.run k s := by
  induction k generalizing s with
  | zero => rfl
  | succ k ih =>
    cases h : step s with
    | next t => exact (runSteps_next h).trans ((ih t).trans (run_of_step_next (M := Sys2Proof.core) h).symm)
    | fault r => cases r
    | refused r =>
      have e : runSteps (k + 1) s = .refused r := by simp [runSteps, h]
      exact e.trans (run_of_step_refused (M := Sys2Proof.core) h).symm

/-- Events without a reset only set the pending tick. -/
theorem foldl_asyncEvent_noReset (evs : List AsyncEvent) (s : State) (h : AsyncEvent.reset ∉ evs) :
    evs.foldl asyncEvent s = if evs = [] then s else s.setTickPending true := by
  induction evs generalizing s with
  | nil => rfl
  | cons e es ih =>
    cases e with
    | reset => simp at h
    | tickFire =>
      rw [List.foldl_cons, ih _ (by simpa using h)]
      by_cases hes : es = [] <;> simp [hes, asyncEvent, State.setTickPending]

/-- What falls before a step without a reset changes at most the pending tick and the inputs to come. -/
theorem takeAsync_noReset {s : State} (h : s.noResetNow) :
    takeAsync s = (s.setAsync s.async.tail).setTickPending (s.tickPending || !(s.async.headD []).isEmpty) := by
  unfold takeAsync
  rw [foldl_asyncEvent_noReset _ _ h]
  generalize s.async.headD [] = evs
  cases evs <;> simp [State.setTickPending, State.setAsync]

theorem foldl_asyncEvent_cfg (evs : List AsyncEvent) (s : State) : (evs.foldl asyncEvent s).cfg = s.cfg := by
  induction evs generalizing s with
  | nil => rfl
  | cons e es ih => rw [List.foldl_cons, ih]; cases e <;> rfl

@[simp] theorem takeAsync_cfg (s : State) : (takeAsync s).cfg = s.cfg := by
  unfold takeAsync; rw [foldl_asyncEvent_cfg]; rfl

theorem foldl_asyncEvent_polls (evs : List AsyncEvent) (s : State) :
    (evs.foldl asyncEvent s).polls = s.polls ∧ (evs.foldl asyncEvent s).async = s.async := by
  induction evs generalizing s with
  | nil => exact ⟨rfl, rfl⟩
  | cons e es ih => rw [List.foldl_cons]; cases e <;> exact ih _

@[simp] theorem takeAsync_polls (s : State) : (takeAsync s).polls = s.polls :=
  (foldl_asyncEvent_polls _ _).1

@[simp] theorem takeAsync_async (s : State) : (takeAsync s).async = s.async.tail :=
  (foldl_asyncEvent_polls _ _).2

/-- The fields that a pulse leaves alone (43_pulse_generation.md R135, R138). -/
structure PulseFrame (s t : State) : Prop where
  cfg : t.cfg = s.cfg
  az : t.az = s.az
  el : t.el = s.el
  lastCmd : t.lastCmd = s.lastCmd
  tickPending : t.tickPending = s.tickPending
  frameBuf : t.frameBuf = s.frameBuf
  polls : t.polls = s.polls
  async : t.async = s.async

theorem pulseAxis_frame (ax : Axis) (s : State) : PulseFrame s (pulseAxis ax s) := by
  unfold pulseAxis
  split
  · unfold busyWaitPulse
    split <;> constructor <;> simp
  · constructor <;> simp [pwmRefresh]

theorem pulsePhase_frame (s : State) : PulseFrame s (pulsePhase s) := by
  have a := pulseAxis_frame .az s
  have e := pulseAxis_frame .el (pulseAxis .az s)
  unfold pulsePhase
  constructor <;> simp [e.cfg, e.az, e.el, e.lastCmd, e.tickPending, e.frameBuf, e.polls, e.async,
    a.cfg, a.az, a.el, a.lastCmd, a.tickPending, a.frameBuf, a.polls, a.async]

/-- The fields that the TICK phase leaves alone (44_angle_accumulator.md R151 to R153). -/
structure TickFrame (s t : State) : Prop where
  cfg : t.cfg = s.cfg
  lastCmd : t.lastCmd = s.lastCmd
  pin : t.pin = s.pin
  duty : t.duty = s.duty
  frameBuf : t.frameBuf = s.frameBuf
  trace : t.trace = s.trace
  polls : t.polls = s.polls
  async : t.async = s.async

/-- What the TICK phase can do. -/
theorem tickPhase_frame (s : State) : TickFrame s (tickPhase s) := by
  constructor <;> (simp only [tickPhase, angleUpdateAz, angleUpdateEl]; split_ifs <;> simp)

end Sys2Proof.Machine
end

