-- ==== Sys2Proof/Laws/Memory.lean ====
section
/-! SUPPORT. The frame buffer's cells are in canonical form in every state. -/

namespace Sys2Proof.Machine

theorem cellsFrom_wf (n : Nat) (b : List Byte) : Memory.wf (cellsFrom n b) = true := by
  induction b generalizing n with
  | nil => rfl
  | cons x xs ih =>
    cases xs with
    | nil => rfl
    | cons y ys =>
      have h := ih (n + 1)
      simp only [cellsFrom] at h ⊢
      simp [Memory.wf, h]

/-- Every state's frame buffer is in canonical form, so every operation keeps it. -/
theorem bufferCells_wf (s : State) : Memory.wf (bufferCells s) = true := cellsFrom_wf 0 _

theorem reset_bufferCells_wf : Memory.wf (bufferCells State.reset) = true := bufferCells_wf _

/-- Filling the buffer replaces all of it (20_memory.md R42). -/
@[simp] theorem readByte_setFrameBuf (s : State) (f : RawFrame) (i : Nat) :
    readByte (s.setFrameBuf f) i = f.bytes[i]? := rfl

end Sys2Proof.Machine
end

