-- ==== Sys2Proof/Laws/PerInstr.lean ====
section
/-! SUPPORT. Facts made per instruction, about the instruction as syntax and its encoding. -/

namespace Sys2Proof.Laws.EncodedFrame

/-- Every frame of an instruction carries the row's format tag and passes the format checks (30_encoding.md
R60, R62), whatever stands where the decoder looks at nothing. -/
def Statement (i : Instr) : Prop :=
  ∀ (c : Cfg) (k : Slack), (encodeWith c k i).format = i.src ∧ (encodeWith c k i).valid = true

/-- A binary frame built by the encoder passes the checks. -/
theorem binaryFrame_valid (c : Cfg) (k : Slack) (x : Byte) : (RawFrame.binary (binaryFrame c k x)).valid = true := by
  unfold binaryFrame
  split <;> rfl

theorem stop : Statement .stop := fun c k => ⟨rfl, binaryFrame_valid c k _⟩
theorem stop1 : Statement .stop1 := fun c k => ⟨rfl, binaryFrame_valid c k _⟩
theorem azf : Statement .azf := fun c k => ⟨rfl, binaryFrame_valid c k _⟩
theorem azb : Statement .azb := fun c k => ⟨rfl, binaryFrame_valid c k _⟩
theorem elf : Statement .elf := fun c k => ⟨rfl, binaryFrame_valid c k _⟩
theorem elb : Statement .elb := fun c k => ⟨rfl, binaryFrame_valid c k _⟩
theorem lu : Statement .lu := fun c k => ⟨rfl, binaryFrame_valid c k _⟩
theorem ru : Statement .ru := fun c k => ⟨rfl, binaryFrame_valid c k _⟩
theorem ld : Statement .ld := fun c k => ⟨rfl, binaryFrame_valid c k _⟩
theorem rd : Statement .rd := fun c k => ⟨rfl, binaryFrame_valid c k _⟩
theorem tS : Statement .tS := fun _ _ => ⟨rfl, rfl⟩
theorem tA : Statement .tA := fun _ _ => ⟨rfl, rfl⟩
theorem tE : Statement .tE := fun _ _ => ⟨rfl, rfl⟩
theorem tR : Statement .tR := fun _ _ => ⟨rfl, rfl⟩
theorem tL : Statement .tL := fun _ _ => ⟨rfl, rfl⟩
theorem tU : Statement .tU := fun _ _ => ⟨rfl, rfl⟩
theorem tD : Statement .tD := fun _ _ => ⟨rfl, rfl⟩
theorem tC : Statement .tC := fun _ _ => ⟨rfl, rfl⟩
theorem tB : Statement .tB := fun _ _ => ⟨rfl, rfl⟩
theorem tC2 : Statement .tC2 := fun _ _ => ⟨rfl, rfl⟩

end Sys2Proof.Laws.EncodedFrame
end

