-- ==== Sys2Proof/Tests/Slice0.lean ====
section
/-! SUPPORT. The model's own tests: the checks refuse ill-formed terms, words written out from the spec decode,
single commands and phases give the values of 95_test_vectors.md, and concrete inputs meet the hypotheses of
each statement. -/

namespace Sys2Proof.Tests

open Sys2Proof.Machine Sys2Proof.Claims

/-- The state after an instruction. -/
def after (i : Instr) (s : State) : State :=
  match exec i s with
  | .next t => t
  | .fault _ => s
  | .refused _ => s

/-- The state after a step. -/
def stepped (s : State) : State :=
  match step s with
  | .next t => t
  | .fault _ => s
  | .refused _ => s

/-- The configuration of 95_test_vectors.md Program 2. -/
def busyCfg : Cfg := { Cfg.fixed with strategy := .busyWait, speedAz := 1000, speedEl := 801 }

/-- A configuration with two query codes. -/
def queryCfg : Cfg := { Cfg.fixed with binQuery := some (0x51, 0x53) }

/-- The configuration of the superseded revision. -/
def offset6Cfg : Cfg := { Cfg.fixed with cmdOffset := 6 }

/-- Reset under `BusyWait`. -/
def busy : State := State.resetWith busyCfg

/-- `HwPwm`, azimuth running forward from reset. -/
def azRuns : State := after .azf State.reset

/-- `HwPwm`, both axes running, azimuth backward and elevation forward. -/
def bothRun : State := after .lu State.reset

/-- `BusyWait`, both axes running. -/
def busyRuns : State := after .lu busy

/-- A state with the two angles given. -/
def withAngles (s : State) (az el : Int) : State :=
  (s.setAngle .az (BitVec.ofInt 16 az)).setAngle .el (BitVec.ofInt 16 el)

/-- A binary frame written as in 30_encoding.md R73. -/
def bin (code : Byte) : RawFrame := .binary [0xFF, 0x01, 0x00, code, 0x00, 0x00, 0x00]

/-- A frame is offered to the next POLL phase. -/
def offer (f : RawFrame) (s : State) : State := s.setPolls [offering f]

/-- A disconnect is sampled by the next POLL phase, with a frame beside it. -/
def dropped (s : State) : State := s.setPolls [{ rx := some (bin 0x00), disc := true }]

/-- The tick is pending at the TICK phase. -/
def ticking (s : State) : State := (s.setTickPending true).setPhase .tick

/-! Ill-formed terms: each check refuses one, and 00_scope.md R5's values pass. -/

theorem test_legal_fixed : Cfg.fixed.legal = true := by decide
theorem test_legal_busy : busyCfg.legal = true := by decide
theorem test_legal_query : queryCfg.legal = true := by decide
theorem test_legal_offset6 : offset6Cfg.legal = true := by decide
theorem test_refuses_offset : { Cfg.fixed with cmdOffset := 4 }.offsetOk = false := by decide
theorem test_refuses_query_equal : { Cfg.fixed with binQuery := some (0x51, 0x51) }.queryOk = false := by decide
theorem test_refuses_query_mapped : { Cfg.fixed with binQuery := some (0x51, 0x02) }.queryOk = false := by decide
theorem test_refuses_query_offset6 : { queryCfg with cmdOffset := 6 }.queryOk = false := by decide
theorem test_refuses_speed_low : { busyCfg with speedAz := 1 }.speedOk = false := by decide
theorem test_refuses_speed_high : { busyCfg with speedEl := 65536 }.speedOk = false := by decide
theorem test_refuses_duty : { Cfg.fixed with pwmDutyOn := 256 }.pwmOk = false := by decide
theorem test_refuses_tick : { Cfg.fixed with tickMs := 0 }.tickOk = false := by decide
theorem test_refuses_unit : { Cfg.fixed with angleStep := 2 }.tickOk = false := by decide
theorem test_refuses_range : { Cfg.fixed with elMin := 900 }.rangeOk = false := by decide
theorem test_refuses_init : { Cfg.fixed with azInit := 3600 }.rangeOk = false := by decide
theorem test_refuses_pins :
    { Cfg.fixed with pins := { azDir := 0, elDir := 1, azPul := 2, elPul := 3, ind := 0 } }.pinsOk = false := by
  decide
theorem test_refuses_slack : { Slack.zero with lead := [0x2E] }.wf = false := by decide
theorem test_refuses_frame_short : (RawFrame.binary [0xFF, 0x01, 0x00]).valid = false := by decide
theorem test_refuses_frame_sync : (RawFrame.binary [0xFE, 0x01, 0, 2, 0, 0, 0]).valid = false := by decide
theorem test_refuses_record : Command.queryAz.recordable = false := by decide
theorem test_refuses_memory : Memory.wf [(1, 0x00), (0, 0xFF)] = false := by decide
theorem test_step_refuses : step (State.resetWith { busyCfg with speedAz := 1 }) = .refused .illegalConfig := rfl

/-! Decoding: the words of 95_test_vectors.md B1 and B2, the tokens of T1. -/

theorem test_decode_stop : decodeTableWord 56 0xFF010000000000 = some .stop := by decide
theorem test_decode_stop1 : decodeTableWord 56 0xFF010001000000 = some .stop1 := by decide
theorem test_decode_azf : decodeTableWord 56 0xFF010002000000 = some .azf := by decide
theorem test_decode_azb : decodeTableWord 56 0xFF010004000000 = some .azb := by decide
theorem test_decode_elf : decodeTableWord 56 0xFF010008000000 = some .elf := by decide
theorem test_decode_elb : decodeTableWord 56 0xFF010010000000 = some .elb := by decide
theorem test_decode_lu : decodeTableWord 56 0xFF01000C000000 = some .lu := by decide
theorem test_decode_ru : decodeTableWord 56 0xFF01000A000000 = some .ru := by decide
theorem test_decode_ld : decodeTableWord 56 0xFF010014000000 = some .ld := by decide
theorem test_decode_rd : decodeTableWord 56 0xFF010012000000 = some .rd := by decide
theorem test_decode_reserved_bytes : decodeTableWord 56 0xFF015502AA3F99 = some .azf := by decide
theorem test_decode_code_not_byte2 : decodeTableWord 56 0xFF010200000000 = some .stop := by decide
theorem test_decode_code_not_byte6 : decodeTableWord 56 0xFF010000000002 = some .stop := by decide
theorem test_decode_not_bitwise : decodeTableWord 56 0xFF010006000000 = none := by decide
theorem test_decode_tS : decodeTableWord 8 0x53 = some .tS := by decide
theorem test_decode_tA : decodeTableWord 8 0x41 = some .tA := by decide
theorem test_decode_tE : decodeTableWord 8 0x45 = some .tE := by decide
theorem test_decode_tR : decodeTableWord 8 0x52 = some .tR := by decide
theorem test_decode_tL : decodeTableWord 8 0x4C = some .tL := by decide
theorem test_decode_tU : decodeTableWord 8 0x55 = some .tU := by decide
theorem test_decode_tD : decodeTableWord 8 0x44 = some .tD := by decide
theorem test_decode_tC : decodeTableWord 8 0x43 = some .tC := by decide
theorem test_decode_tB : decodeTableWord 8 0x42 = some .tB := by decide
theorem test_decode_tC2 : decodeTableWord 16 0x4332 = some .tC2 := by decide
theorem test_decode_slipped :
    decode Cfg.fixed (.binary [0x00, 0xFF, 0x01, 0x00, 0x02, 0x00, 0x00]) =
      .invalid .badSyncBytes (.syncBytes 0x00 0xFF) := by decide
theorem test_decode_sync_before_code :
    decode Cfg.fixed (.binary [0xFE, 0x01, 0x00, 0x03, 0x00, 0x00, 0x00]) =
      .invalid .badSyncBytes (.syncBytes 0xFE 0x01) := by decide
theorem test_decode_long :
    decode Cfg.fixed (.binary [0xFF, 0x01, 0x00, 0x02, 0x00, 0x00, 0x00, 0x00]) =
      .invalid .frameTooShort (.length 8) := by decide
theorem test_decode_blank_line : decode Cfg.fixed (.text [0x20, 0x0D]) = .unknown (.token []) := by decide
theorem test_decode_inner_space :
    decode Cfg.fixed (.text [0x43, 0x20, 0x32]) = .unknown (.token [0x43, 0x20, 0x32]) := by decide
theorem test_decode_text_not_binary :
    decode Cfg.fixed (.text [0xFF, 0x01, 0x00, 0x02, 0x00, 0x00, 0x00]) =
      .unknown (.token [0xFF, 0x01, 0x00, 0x02, 0x00, 0x00, 0x00]) := by decide
theorem test_encode_words : encodeTableWord .azf = (56, 0xFF010002000000) ∧ encodeTableWord .tC2 = (16, 0x4332) := by
  decide

/-! Commands: the traces and states of 95_test_vectors.md M1 and Q1. -/

theorem test_azf :
    azRuns.trace = [.pinWrite .azDir .high, .dutyWrite .az 128, .pinWrite .ind .high] ∧
    azRuns.az.enabled = true ∧ azRuns.az.direction = .forward ∧ azRuns.el = State.reset.el ∧
    azRuns.lastCmd = some (.rotateAz .forward) := by decide
theorem test_azf_busy : (after .azf busy).trace = [.pinWrite .azDir .high, .pinWrite .ind .high] := by decide
theorem test_azb : (after .azb azRuns).pin.azDir = .low ∧ (after .azb azRuns).az.enabled = true := by decide
theorem test_elf : (after .elf azRuns).pin.elDir = .high ∧ (after .elf azRuns).az = azRuns.az := by decide
theorem test_elb : (after .elb State.reset).el.direction = .backward ∧ (after .elb State.reset).duty.el = 128 := by
  decide
theorem test_lu : busyRuns.trace = [.pinWrite .azDir .low, .pinWrite .elDir .high, .pinWrite .ind .high] := by decide
theorem test_ru :
    (after .ru State.reset).trace = [.pinWrite .azDir .high, .dutyWrite .az 128, .pinWrite .elDir .high,
      .dutyWrite .el 128, .pinWrite .ind .high] := by decide
theorem test_ld :
    (after .ld State.reset).trace = [.pinWrite .azDir .low, .dutyWrite .az 128, .pinWrite .elDir .low,
      .dutyWrite .el 128, .pinWrite .ind .high] := by decide
theorem test_rd :
    (after .rd State.reset).trace = [.pinWrite .azDir .high, .dutyWrite .az 128, .pinWrite .elDir .low,
      .dutyWrite .el 128, .pinWrite .ind .high] := by decide
theorem test_stop :
    (after .stop State.reset).trace = [.dutyWrite .az 0, .dutyWrite .el 0, .pinWrite .ind .low] ∧
    (after .stop State.reset).lastCmd = some .stop := by decide
theorem test_stop1_busy :
    (after .stop1 busy).trace = [.pinWrite .azPul .low, .pinWrite .elPul .low, .pinWrite .ind .low] := by decide
theorem test_tS_again :
    (after .tS (after .tS State.reset)).trace =
      [.dutyWrite .az 0, .dutyWrite .el 0, .pinWrite .ind .low, .resp [0x30, 0x30, 0x30, 0x30, 0x2E],
       .dutyWrite .az 0, .dutyWrite .el 0, .pinWrite .ind .low, .resp [0x30, 0x30, 0x30, 0x30, 0x2E]] := by decide
theorem test_tA :
    (after .tA bothRun).az.enabled = false ∧ (after .tA bothRun).el.enabled = true ∧
    (after .tA bothRun).pin.ind = .high := by decide
theorem test_tA_twice : after .tA (after .tA bothRun) = after .tA bothRun := by decide
theorem test_tE :
    (after .tE State.reset).trace =
      [.dutyWrite .el 0, .pinWrite .ind .low, .resp [0x30, 0x30, 0x30, 0x30, 0x2E]] := by decide
theorem test_tR :
    (after .tR State.reset).trace = [.pinWrite .azDir .high, .dutyWrite .az 128, .pinWrite .ind .high,
      .resp [0x30, 0x30, 0x30, 0x32, 0x2E]] := by decide
theorem test_tR_after_azf : after .tR azRuns = azRuns := by decide
theorem test_tL :
    (after .tL State.reset).trace = [.pinWrite .azDir .low, .dutyWrite .az 128, .pinWrite .ind .high,
      .resp [0x30, 0x30, 0x30, 0x34, 0x2E]] := by decide
theorem test_tU :
    (after .tU State.reset).trace = [.pinWrite .elDir .high, .dutyWrite .el 128, .pinWrite .ind .high,
      .resp [0x30, 0x30, 0x30, 0x38, 0x2E]] := by decide
theorem test_tD :
    (after .tD State.reset).trace = [.pinWrite .elDir .low, .dutyWrite .el 128, .pinWrite .ind .high,
      .resp [0x30, 0x30, 0x31, 0x30, 0x2E]] := by decide
theorem test_tC : (after .tC (withAngles State.reset 3595 0)).trace = [.resp [0x41, 0x5A, 0x3D, 0x33, 0x36, 0x30]] := by
  decide
theorem test_tC_low : (after .tC (withAngles State.reset 4 0)).trace = [.resp [0x41, 0x5A, 0x3D, 0x30]] := by decide
theorem test_tB : (after .tB (withAngles State.reset 0 894)).trace = [.resp [0x45, 0x4C, 0x3D, 0x38, 0x39]] := by decide
theorem test_tB_negative :
    (after .tB (withAngles State.reset 0 (-5))).trace = [.resp [0x45, 0x4C, 0x3D, 0x2D, 0x31]] := by decide
theorem test_tC2 :
    (after .tC2 (withAngles State.reset 3599 0)).trace =
      [.resp [0x41, 0x5A, 0x3D, 0x33, 0x36, 0x30], .resp [0x45, 0x4C, 0x3D, 0x30]] := by decide

/-! Phases and steps: 95_test_vectors.md P1, A1 and E1. -/

theorem test_pulse_busy :
    (pulsePhase busyRuns).trace = busyRuns.trace ++
      [.pinWrite .azPul .high, .delay 500, .pinWrite .azPul .low, .delay 500,
       .pinWrite .elPul .high, .delay 400, .pinWrite .elPul .low, .delay 400] := by decide
theorem test_pulse_busy_idle : (pulsePhase busy).trace = [] := by decide
theorem test_pulse_pwm :
    (pulsePhase azRuns).trace = azRuns.trace ++ [.dutyWrite .az 128, .dutyWrite .el 0] := by decide
theorem test_half : [1000, 1001, 801, 3, 2, 65535].map (fun n => half (BitVec.ofNat 16 n)) =
    [500, 500, 400, 1, 1, 32767] := by decide
theorem test_az_wraps_up : (tickPhase (ticking (withAngles azRuns 3599 0))).az.angle = 0 := by decide
theorem test_az_wraps_down : (tickPhase (ticking (withAngles bothRun 0 0))).az.angle = 3599 := by decide
theorem test_el_clamps : (tickPhase (ticking (withAngles bothRun 0 900))).el.angle = 900 := by decide
theorem test_el_clamps_low : (tickPhase (ticking (after .ld State.reset))).el.angle = 0 := by decide
theorem test_el_leaves_bound : (tickPhase (ticking (withAngles (after .ld State.reset) 0 900))).el.angle = 899 := by
  decide
theorem test_tick_disabled : (tickPhase (ticking (withAngles State.reset 1234 450))).az.angle = 1234 := by decide
theorem test_error_short :
    (stepped (offer (.binary [0xFF, 0x01, 0x00]) azRuns)).trace =
      azRuns.trace ++ [.diag .frameTooShort (.length 3)] := by decide
theorem test_error_unknown :
    (stepped (offer (bin 0x07) azRuns)).trace =
      azRuns.trace ++ [.diag .unknownCommandCode (.unknown (.code 0x07))] := by decide
theorem test_disconnect_silent :
    (stepped (dropped bothRun)).trace = bothRun.trace ∧ (stepped (dropped bothRun)).az = bothRun.az := by decide
theorem test_reset_event : (takeAsync ((bothRun).setAsync [[.reset]])) = State.reset := by decide
theorem test_fetch_word_runs :
    (stepped (State.reset.withFetchWord 56 0xFF010002000000)).trace = azRuns.trace ∧
    (stepped (State.reset.withFetchWord 16 0x4332)).trace = (after .tC2 State.reset).trace := by decide

/-! For each statement with hypotheses or cases, inputs that meet them. -/

theorem witness_DecodeEncodeAgree :
    Cfg.fixed.legal = true ∧ offset6Cfg.legal = true ∧ queryCfg.legal = true ∧
    ({ r1 := 1, r2 := 2, r3 := 3, r4 := 4, lead := [0x20], trail := [0x0D] } : Slack).wf = true := by decide

theorem witness_DecodedFramesAreEncodings :
    Cfg.fixed.legal = true ∧ Cfg.fixed.binQuery = none ∧ decode Cfg.fixed (bin 0x14) = .instr .ld ∧
    decode Cfg.fixed (.text [0x20, 0x45]) = .instr .tE := by decide

theorem witness_TableWordsDecodeByCode : 0xFF015502AA3F99 = wordW 0x55 0x02 0xAA 0x3F 0x99 := by decide

theorem witness_WrongLengthIsFrameTooShort :
    ([] : List Byte).length ≠ 7 ∧ [0xFF, 0x01, 0, 2, 0, (0 : Byte)].length ≠ 7 ∧
    decode Cfg.fixed (.binary [0xFF, 0x01, 0, 2, 0, 0, 0, 0]) = .invalid .frameTooShort (.length 8) := by decide

theorem witness_BadSyncReported :
    ((0xFE : Byte) ≠ 0xFF ∨ (0x01 : Byte) ≠ 0x01) ∧ ((0xFF : Byte) ≠ 0xFF ∨ (0x02 : Byte) ≠ 0x01) ∧
    decode Cfg.fixed (.binary [0xFF, 0x02, 0, 2, 0, 0, 0]) = .invalid .badSyncBytes (.syncBytes 0xFF 0x02) := by
  decide

/-- A frame with a code carries it. -/
theorem frameHas_bin (code : Byte) : FrameHas Cfg.fixed code (bin code) := ⟨_, rfl, rfl, rfl, rfl, rfl⟩

theorem witness_UnmappedCodesAreUnknown :
    Cfg.fixed.binQuery = none ∧ FrameHas Cfg.fixed 0x03 (bin 0x03) ∧ 0x03 ∉ mappedCodes ∧
    FrameHas Cfg.fixed 0x14 (bin 0x14) ∧ 0x14 ∈ mappedCodes :=
  ⟨rfl, frameHas_bin _, by decide, frameHas_bin _, by decide⟩

theorem witness_TrimRemovesLongestWhitespace :
    (trim [0x20, 0x20, 0x43, 0x32, 0x09]).head? = some 0x43 ∧
    (trim [0x20, 0x20, 0x43, 0x32, 0x09]).getLast? = some 0x32 ∧
    ([0x20, 0x0D] : List Byte).all isSpace = true ∧ 0x0B ∈ whitespaceBytes ∧ 0x08 ∉ whitespaceBytes ∧
    isSpace 0x0E = false := by decide

theorem witness_OtherTokensAreUnknown :
    LineHas Instr.tC2.opcode (.text [0x43, 0x32, 0x0D]) ∧
    decode Cfg.fixed (.text [0x43, 0x32, 0x32]) = .unknown (.token [0x43, 0x32, 0x32]) :=
  ⟨⟨[], [0x0D], rfl, rfl, rfl⟩, by decide⟩

/-- A text line is no binary frame. -/
theorem not_frameHas_text (c : Cfg) (code : Byte) (t : List Byte) : ¬ FrameHas c code (.text t) := by
  rintro ⟨b, h, _⟩
  cases h

theorem witness_QueryMarkersDecode :
    queryCfg.legal = true ∧ queryCfg.binQuery = some (0x51, 0x53) ∧ FrameHas queryCfg 0x51 (bin 0x51) ∧
    FrameHas queryCfg 0x53 (bin 0x53) ∧ ¬ FrameHas queryCfg 0x51 (.text [0x53]) ∧
    ¬ FrameHas queryCfg 0x53 (.text [0x53]) :=
  ⟨by decide, rfl, ⟨_, rfl, rfl, rfl, rfl, rfl⟩, ⟨_, rfl, rfl, rfl, rfl, rfl⟩, not_frameHas_text _ _ _,
    not_frameHas_text _ _ _⟩

theorem witness_StopForcesBothIdle : Cfg.fixed.legal = true ∧ bothRun.cfg.legal = true := by decide

theorem witness_StopAzOnlyStopsAzimuth :
    Cfg.fixed.legal = true ∧ bothRun.lastCmd ≠ some .stopAzOnly ∧
    (after .tA bothRun).lastCmd = some .stopAzOnly := by decide

theorem witness_StopElOnlyStopsElevation :
    Cfg.fixed.legal = true ∧ busyRuns.lastCmd ≠ some .stopElOnly ∧
    (after .tE busyRuns).lastCmd = some .stopElOnly := by decide

theorem witness_RotateAzForwardRuns :
    Cfg.fixed.legal = true ∧ State.reset.lastCmd ≠ some (.rotateAz .forward) ∧
    azRuns.lastCmd = some (.rotateAz .forward) := by decide

theorem witness_RotateAzBackwardRuns :
    Cfg.fixed.legal = true ∧ azRuns.lastCmd ≠ some (.rotateAz .backward) ∧
    (after .azb azRuns).lastCmd = some (.rotateAz .backward) := by decide

theorem witness_RotateElForwardRuns :
    Cfg.fixed.legal = true ∧ azRuns.lastCmd ≠ some (.rotateEl .forward) ∧
    (after .tU azRuns).lastCmd = some (.rotateEl .forward) := by decide

theorem witness_RotateElBackwardRuns :
    Cfg.fixed.legal = true ∧ azRuns.lastCmd ≠ some (.rotateEl .backward) ∧
    (after .elb azRuns).lastCmd = some (.rotateEl .backward) := by decide

theorem witness_RotateBothRuns :
    (Instr.lu, Dir.backward, Dir.forward, Level.low, Level.high, (0x0C : Byte)) ∈ bothRows ∧
    (Instr.rd, Dir.forward, Dir.backward, Level.high, Level.low, (0x12 : Byte)) ∈ bothRows ∧
    Cfg.fixed.legal = true ∧ azRuns.lastCmd ≠ some (.rotateBoth .backward .forward) ∧
    bothRun.lastCmd = some (.rotateBoth .backward .forward) := by decide

theorem witness_QueryAzReplies : Cfg.fixed.legal = true ∧ (withAngles State.reset 100 0).az.angle = 100 := by decide

theorem witness_QueryElReplies : queryCfg.legal = true ∧ (withAngles State.reset 0 455).el.angle = 455 := by decide

theorem witness_QueryBothReplies :
    Cfg.fixed.legal = true ∧ (withAngles State.reset 3599 0).az.angle = 3599 ∧
    (withAngles State.reset 3599 0).el.angle = 0 := by decide

theorem witness_RepeatedCommandIsSuppressed :
    Instr.azf.command.recordable = true ∧ Instr.azf.command ≠ .stop ∧ Instr.tR.command = Instr.azf.command ∧
    azRuns.lastCmd = some Instr.azf.command ∧ exec .azf State.reset = .next azRuns :=
  ⟨by decide, by decide, by decide, by decide, rfl⟩

theorem witness_StopAndQueriesAreExempt :
    Instr.stop1.command = .stop ∧ Instr.tS.command = .stop ∧ (after .stop azRuns).lastCmd = some .stop ∧
    Instr.tC2.command ∈ [Command.queryAz, .queryEl, .queryBoth] ∧
    decode azRuns.cfg (bin 0x03) = .unknown (.code 0x03) ∧
    Instr.tA.command ∈ [Command.stopAzOnly, .stopElOnly] ∧
    (after .tA bothRun).lastCmd = some Instr.tA.command := by decide

theorem witness_LastCmdIsLastApplied :
    Instr.azf.command.recordable = true ∧ exec .azf State.reset = .next azRuns ∧
    (offer (bin 0x02) State.reset).noResetNow ∧
    step (offer (bin 0x02) State.reset) = .next (stepped (offer (bin 0x02) State.reset)) ∧
    (stepped (offer (bin 0x02) State.reset)).lastCmd ≠ (offer (bin 0x02) State.reset).lastCmd :=
  ⟨by decide, rfl, by decide, rfl, by decide⟩

theorem witness_DeduplicationChangesNoAxis :
    azRuns.Inv ∧ azRuns.lastCmd = some Instr.tR.command ∧ busyRuns.Inv ∧
    busyRuns.lastCmd = some Instr.lu.command := by decide

theorem witness_QueriesArePure :
    decode azRuns.cfg (.text [0x43, 0x32]) = .instr .tC2 ∧ Instr.tC2.command.recordable = false := by decide

theorem witness_AxisTransitionTable : bothRun.Inv ∧ exec .tA bothRun = .next (after .tA bothRun) :=
  ⟨by decide, rfl⟩

theorem witness_OnlyStopDisablesAnAxis :
    (offer (.text [0x41]) bothRun).noResetNow ∧
    step (offer (.text [0x41]) bothRun) = .next (stepped (offer (.text [0x41]) bothRun)) ∧
    ((offer (.text [0x41]) bothRun).axis .az).enabled = true ∧
    ((stepped (offer (.text [0x41]) bothRun)).axis .az).enabled = false :=
  ⟨by decide, rfl, by decide, by decide⟩

theorem witness_OnlyNamingCommandsChangeMode :
    (offer (bin 0x04) azRuns).noResetNow ∧
    step (offer (bin 0x04) azRuns) = .next (stepped (offer (bin 0x04) azRuns)) ∧
    ((stepped (offer (bin 0x04) azRuns)).axis .az).mode ≠ ((offer (bin 0x04) azRuns).axis .az).mode :=
  ⟨by decide, rfl, by decide⟩

theorem witness_AxesAreIndependent :
    namesAxis Instr.azf.command .el = false ∧ exec .azf bothRun = .next (after .azf bothRun) := ⟨rfl, rfl⟩

theorem witness_DegreesRoundToNearest : (0 : Int) ≤ 3595 ∧ (-5 : Int) < 0 := by decide

theorem witness_DecimalSpellingReadsBack : (dec 0).head? = some 0x30 ∧ 0 < 3600 := by decide

theorem witness_HexSpellingReadsBack : 0x000A ≤ 65535 ∧ 0xFFFF ≤ 65535 := by decide

theorem witness_StepRunsDecodedInstruction :
    (offer (bin 0x02) State.reset).cfg.legal = true ∧
    (takeAsync (offer (bin 0x02) State.reset)).phase = .poll ∧
    nextPoll (offer (bin 0x02) State.reset) = offering (bin 0x02) ∧
    decode (offer (bin 0x02) State.reset).cfg (bin 0x02) = .instr .azf := by decide

theorem witness_PhaseCycleIsFixed : State.reset.noResetNow ∧ step State.reset = .next (stepped State.reset) :=
  ⟨by decide, rfl⟩

theorem witness_BusyWaitPulses : busyRuns.cfg.strategy = .busyWait := by decide

theorem witness_PwmRefreshesDuties : azRuns.cfg.strategy = .hwPwm ∧ azRuns.Inv := by decide

theorem witness_PwmWaveformFollowsEnable :
    azRuns.Inv ∧ azRuns.cfg.strategy = .hwPwm ∧ (azRuns.axis .az).enabled = true ∧
    (azRuns.axis .el).enabled = false := by decide

theorem witness_StepPulsesCountPulsePhases :
    (busyRuns.setPhase .pulse).cfg.strategy = .busyWait ∧ (busyRuns.setPhase .pulse).noReset ∧
    pulsesDue .az 1 (busyRuns.setPhase .pulse) = 1 ∧
    ∃ t, runSteps 1 (busyRuns.setPhase .pulse) = .next t :=
  ⟨by decide, by decide, by decide, _, rfl⟩

theorem witness_TickPhaseConsumesTick :
    azRuns.tickPending = false ∧ (ticking azRuns).tickPending = true := by decide

theorem witness_AzimuthTicksWrap :
    (withAngles azRuns 3599 0).cfg.legal = true ∧ 0 ≤ (withAngles azRuns 3599 0).az.angle.toInt ∧
    (withAngles azRuns 3599 0).az.angle.toInt ≤ 3599 := by decide

theorem witness_ElevationTicksClamp :
    (withAngles bothRun 0 900).cfg.legal = true ∧
    (withAngles bothRun 0 900).cfg.elMin ≤ (withAngles bothRun 0 900).el.angle.toInt ∧
    (withAngles bothRun 0 900).el.angle.toInt ≤ (withAngles bothRun 0 900).cfg.elMax := by decide

theorem witness_AngleMovesOnlyAtTick :
    (ticking azRuns).noResetNow ∧ step (ticking azRuns) = .next (stepped (ticking azRuns)) ∧
    ((stepped (ticking azRuns)).axis .az).angle ≠ ((ticking azRuns).axis .az).angle :=
  ⟨by decide, rfl, by decide⟩

theorem witness_AnglesIgnorePulses :
    (ticking azRuns).cfg = (dutyWrite .az 0 (ticking azRuns)).cfg ∧
    (ticking azRuns).tickPending = (dutyWrite .az 0 (ticking azRuns)).tickPending ∧
    ∀ ax, ((ticking azRuns).axis ax).enabled = ((dutyWrite .az 0 (ticking azRuns)).axis ax).enabled ∧
      ((ticking azRuns).axis ax).direction = ((dutyWrite .az 0 (ticking azRuns)).axis ax).direction ∧
      ((ticking azRuns).axis ax).angle = ((dutyWrite .az 0 (ticking azRuns)).axis ax).angle :=
  ⟨rfl, rfl, fun ax => by cases ax <;> exact ⟨rfl, rfl, rfl⟩⟩

theorem witness_TickSeesTheNewCommand :
    decode State.reset.cfg (bin 0x02) = .instr .azf ∧
    exec .azf (State.reset.setFrameBuf (bin 0x02)) = .next (after .azf (State.reset.setFrameBuf (bin 0x02))) ∧
    (∃ t, iteration (some (bin 0x02)) false 1 State.reset = .next t) ∧
    (after .azf (State.reset.setFrameBuf (bin 0x02))).az.enabled = true ∧
    (after .azf (State.reset.setFrameBuf (bin 0x02))).el.enabled = false ∧
    decode bothRun.cfg (.text [0x41]) = .instr .tA ∧
    (after .tA (bothRun.setFrameBuf (.text [0x41]))).az.enabled = false ∧
    (after .tA (bothRun.setFrameBuf (.text [0x41]))).el.enabled = true :=
  ⟨by decide, rfl, ⟨_, rfl⟩, by decide, by decide, by decide, by decide, by decide⟩

theorem witness_ErrorsOnlyReport :
    decode azRuns.cfg (bin 0x07) = .unknown (.code 0x07) ∧
    decode azRuns.cfg (.binary []) = .invalid .frameTooShort (.length 0) ∧
    decode azRuns.cfg (.binary [0xFE, 0x01, 0, 0, 0, 0, 0]) = .invalid .badSyncBytes (.syncBytes 0xFE 0x01) := by
  decide

theorem witness_DisconnectHasNoEffect :
    (dropped bothRun).cfg.legal = true ∧ (dropped bothRun).noResetNow ∧ (dropped bothRun).phase = .poll ∧
    (nextPoll (dropped bothRun)).disc = true ∧ azRuns.noResetNow ∧ azRuns.phase = .poll ∧
    (nextPoll azRuns).rx = none ∧ ((azRuns.setPhase .status).setAsync [[.tickFire]]).noResetNow ∧
    ((azRuns.setPhase .status).setAsync [[.tickFire]]).phase = .status ∧
    tickBeforeStep ((azRuns.setPhase .status).setAsync [[.tickFire]]) = true := by decide

theorem witness_OnlyPollFillsTheBuffer :
    exec .azf State.reset = .next azRuns ∧ (offer (bin 0x02) State.reset).noResetNow ∧
    step (offer (bin 0x02) State.reset) = .next (stepped (offer (bin 0x02) State.reset)) ∧
    takenFrame (offer (bin 0x02) State.reset) = some (bin 0x02) ∧ takenFrame (dropped bothRun) = none :=
  ⟨rfl, by decide, rfl, by decide, by decide⟩

theorem witness_OneSamplePerPoll :
    (dropped bothRun).noResetNow ∧ step (dropped bothRun) = .next (stepped (dropped bothRun)) ∧
    (dropped bothRun).phase = .poll ∧ (ticking azRuns).phase ≠ .poll := ⟨by decide, rfl, by decide, by decide⟩

theorem witness_TraceOnlyGrows : (ticking azRuns).noResetNow ∧ step (ticking azRuns) = .next (stepped (ticking azRuns)) :=
  ⟨by decide, rfl⟩

theorem witness_ResetValues : Cfg.fixed.legal = true ∧ busyCfg.legal = true := by decide

theorem witness_IllegalConfigIsRefused :
    (State.resetWith { Cfg.fixed with cmdOffset := 4 }).cfg.legal = false ∧ State.reset.cfg.legal = true := by decide

theorem witness_ConfigurationIsConstant : ∃ t, runSteps 2 (bothRun.setAsync [[], [.reset]]) = .next t := ⟨_, rfl⟩

theorem witness_InvariantHoldsAtReset : Cfg.fixed.legal = true ∧ queryCfg.legal = true := by decide

theorem witness_EveryStepKeepsInvariant :
    (offer (bin 0x00) bothRun).Inv ∧ step (offer (bin 0x00) bothRun) = .next (stepped (offer (bin 0x00) bothRun)) ∧
    (ticking busyRuns).Inv ∧ step (ticking busyRuns) = .next (stepped (ticking busyRuns)) :=
  ⟨by decide, rfl, by decide, rfl⟩

theorem witness_EachAtomicStepKeepsInvariant :
    (withAngles bothRun 3599 900).Inv ∧ busyRuns.Inv ∧ ∃ t, acceptFrame (bin 0x00) bothRun = .next t :=
  ⟨by decide, by decide, _, rfl⟩

theorem witness_BlockNeverHalts : azRuns.cfg.legal = true := by decide

theorem witness_FourStepsAreOneIteration : azRuns.cfg.legal = true ∧ azRuns.phase = .poll := by decide

theorem witness_RunIsAListOfIterations : busyRuns.cfg.legal = true ∧ busyRuns.phase = .poll := by decide

theorem witness_LateTicksAreLost : 1 ≤ 3 ∧ (ticking azRuns).tickPending = true := by decide

end Sys2Proof.Tests
end

section
/-! The statements that rest on 00_scope.md: the configuration (R5), the byte order of a table word (R6) and
the spellings of numbers (R7). -/

namespace Sys2Proof.Proofs.Scope

open Sys2Proof.Machine Sys2Proof.Claims

/-! The configuration: where a step is refused, and that no step writes it. -/

theorem step_of_illegal {s : State} (h : s.cfg.legal = false) : step s = .refused .illegalConfig := by
  simp [step, h]

theorem step_completes {s : State} (h : s.cfg.legal = true) : ∃ t, step s = .next t := by
  obtain ⟨t, ht⟩ := runPhase_completes (takeAsync s)
  exact ⟨t, by simp [step, h, ht]⟩

/-- Settles O52: a legal step completes, so the refusal is met under an illegal configuration only. -/
theorem illegalConfigIsRefused : Obligations.IllegalConfigIsRefused := by
  intro s
  refine ⟨fun refused => ?_, step_of_illegal⟩
  cases legal : s.cfg.legal with
  | false => rfl
  | true =>
    obtain ⟨t, completed⟩ := step_completes legal
    simp [completed] at refused

theorem acceptFrame_cfg {f : RawFrame} {s t : State} (h : acceptFrame f s = .next t) : t.cfg = s.cfg := by
  obtain ⟨i, -, run⟩ | ⟨info, -, rfl⟩ | ⟨e, info, -, rfl⟩ := acceptFrame_cases h
  · exact (exec_sameFrame run).cfg
  · exact raiseError_cfg _ _ _
  · exact raiseError_cfg _ _ _

theorem pollPhase_cfg {rx : Option RawFrame} {disc : Bool} {s t : State}
    (h : pollPhase rx disc s = .next t) : t.cfg = s.cfg := by
  obtain ⟨-, rfl⟩ | ⟨f, u, -, -, accepted, rfl⟩ := pollPhase_cases h
  · rfl
  · simpa using acceptFrame_cfg accepted

theorem step_cfg {s t : State} (h : step s = .next t) : t.cfg = s.cfg := by
  rw [← takeAsync_cfg s]
  obtain ⟨-, ⟨-, polled⟩ | ⟨-, rfl⟩ | ⟨-, rfl⟩ | ⟨-, rfl⟩⟩ := step_cases h
  · simpa using pollPhase_cfg polled
  · exact (pulsePhase_frame _).cfg
  · exact (tickPhase_frame _).cfg
  · rfl

/-- Settles O53, by induction on the number of steps. -/
theorem configurationIsConstant : Obligations.ConfigurationIsConstant := by
  intro k
  induction k with
  | zero => rintro s t ⟨⟩; rfl
  | succ k ih =>
    intro s t h
    cases first : step s with
    | next u =>
      rw [runSteps_next first] at h
      exact (ih u t h).trans (step_cfg first)
    | fault r => cases r
    | refused r => simp [runSteps, first] at h

/-! The word of a byte list and the bytes of a word, which undo each other on the length of the list. -/

theorem wordOfBytes_cons (x : Byte) (b : List Byte) :
    wordOfBytes (x :: b) = 256 ^ b.length * x.toNat + wordOfBytes b := by
  have shift : ∀ w, b.foldl (fun w x => 256 * w + x.toNat) w = 256 ^ b.length * w + wordOfBytes b := by
    unfold wordOfBytes
    induction b with
    | nil => simp
    | cons y b ih =>
      intro w
      rw [List.foldl_cons, List.foldl_cons, ih (256 * w + _), ih (256 * 0 + _), List.length_cons]
      ring
  simpa [wordOfBytes] using shift x.toNat

theorem wordOfBytes_lt (b : List Byte) : wordOfBytes b < 256 ^ b.length := by
  induction b with
  | nil => simp [wordOfBytes]
  | cons x b ih =>
    calc wordOfBytes (x :: b) = 256 ^ b.length * x.toNat + wordOfBytes b := wordOfBytes_cons x b
      _ < 256 ^ b.length * (x.toNat + 1) := by rw [mul_add_one]; omega
      _ ≤ 256 ^ b.length * 256 := Nat.mul_le_mul_left _ x.isLt
      _ = 256 ^ (x :: b).length := by rw [List.length_cons, pow_succ]

/-- The bytes of a word below the `n`-th do not depend on what stands above. -/
theorem bytesOfWord_add_mul (n k w : Nat) : bytesOfWord n (256 ^ n * k + w) = bytesOfWord n w := by
  induction n generalizing k with
  | zero => rfl
  | succ n ih =>
    have regroup : 256 ^ (n + 1) * k + w = 256 ^ n * (256 * k) + w := by ring
    have head : BitVec.ofNat 8 (256 * k + w / 256 ^ n) = BitVec.ofNat 8 (w / 256 ^ n) := by
      apply BitVec.eq_of_toNat_eq
      simp
    rw [regroup, bytesOfWord, bytesOfWord, ih, Nat.mul_add_div (by positivity), head]

theorem bytesOfWord_wordOfBytes (b : List Byte) : bytesOfWord b.length (wordOfBytes b) = b := by
  induction b with
  | nil => rfl
  | cons x b ih =>
    have head : (256 ^ b.length * x.toNat + wordOfBytes b) / 256 ^ b.length = x.toNat := by
      rw [Nat.mul_add_div (by positivity), Nat.div_eq_of_lt (wordOfBytes_lt b), add_zero]
    rw [wordOfBytes_cons, List.length_cons, bytesOfWord, bytesOfWord_add_mul, ih, head, BitVec.ofNat_toNat,
      BitVec.setWidth_eq]

theorem frameOfWord_wordOfBytes {b : List Byte} (h : b.length = 7) :
    frameOfWord 56 (wordOfBytes b) = .binary b := by
  have bytes := bytesOfWord_wordOfBytes b
  rw [h] at bytes
  rw [frameOfWord, if_pos rfl, bytes]

/-- Without `BIN_QUERY` a code byte is looked up in the binary map alone (40_decoder.md R83). -/
theorem decodeCode_eq_instr {c : Cfg} (h : c.binQuery = none) (code : Byte) (i : Instr) :
    decodeCode c code = .instr i ↔ codeTable.lookup code = some i := by
  cases row : codeTable.lookup code <;> simp [decodeCode, queryCode, h, row]

/-- The table word is the word of the frame that R61 lays out. -/
theorem wordW_eq_wordOfBytes (r2 code r4 r5 r6 : Byte) :
    wordW r2 code r4 r5 r6 = wordOfBytes [0xFF, 0x01, r2, code, r4, r5, r6] := by
  simp only [wordW, wordOfBytes, List.foldl, BitVec.reduceToNat]
  omega

/-- Settles O4: the word is a valid frame's, and its code byte is looked up in the binary map. -/
theorem tableWordsDecodeByCode : Obligations.TableWordsDecodeByCode := by
  rintro _ r2 code r4 r5 r6 i rfl
  have frame : frameOfWord 56 (wordW r2 code r4 r5 r6) = .binary [0xFF, 0x01, r2, code, r4, r5, r6] := by
    rw [wordW_eq_wordOfBytes, frameOfWord_wordOfBytes rfl]
  have decoded : decode Cfg.fixed (.binary [0xFF, 0x01, r2, code, r4, r5, r6]) = decodeCode Cfg.fixed code := rfl
  rw [decodeTableWord_eq_some frame, decoded, decodeCode_eq_instr rfl, codeTable_lookup]

/-! The decimal spelling. `decDigits` spells `n` where its fuel is at least `n`, as `dec` gives it. -/

theorem dec_natCast (n : Nat) : dec n = decDigits n n := by simp [dec]

theorem dec_neg {n : Nat} (h : 0 < n) : dec (-(n : Int)) = 0x2D :: dec n := by
  simp [dec, h]

theorem toNat_decDigit {d : Nat} (h : d < 10) : (decDigit d).toNat = 0x30 + d := by
  rw [decDigit, BitVec.toNat_ofNat]
  omega

theorem decValue_append_singleton (l : List Byte) (b : Byte) :
    decValue (l ++ [b]) = 10 * decValue l + (b.toNat - 0x30) := by
  simp [decValue]

theorem decValue_decDigit {d : Nat} (h : d < 10) : decValue [decDigit d] = d := by
  simp [decValue, toNat_decDigit h]

theorem decDigits_ne_nil (fuel n : Nat) : decDigits fuel n ≠ [] := by
  cases fuel with
  | zero => simp [decDigits]
  | succ fuel =>
    unfold decDigits
    split <;> simp

theorem decDigits_are_digits (fuel n : Nat) : ∀ b ∈ decDigits fuel n, 0x30 ≤ b.toNat ∧ b.toNat ≤ 0x39 := by
  have digit : ∀ d < 10, 0x30 ≤ (decDigit d).toNat ∧ (decDigit d).toNat ≤ 0x39 := by
    intro d h
    rw [toNat_decDigit h]
    omega
  induction fuel generalizing n with
  | zero => simpa [decDigits] using digit (n % 10) (Nat.mod_lt _ (by decide))
  | succ fuel ih =>
    unfold decDigits
    split
    · simpa using digit n ‹_›
    · intro b hb
      obtain hb | hb := List.mem_append.mp hb
      · exact ih _ b hb
      · rw [List.mem_singleton.mp hb]
        exact digit (n % 10) (Nat.mod_lt _ (by decide))

theorem decValue_decDigits {fuel n : Nat} (h : n ≤ fuel) : decValue (decDigits fuel n) = n := by
  induction fuel generalizing n with
  | zero =>
    obtain rfl : n = 0 := by omega
    rfl
  | succ fuel ih =>
    unfold decDigits
    split
    · exact decValue_decDigit ‹_›
    · rw [decValue_append_singleton, ih (by omega), toNat_decDigit (Nat.mod_lt _ (by decide))]
      omega

/-- No leading zero: the first digit of `n` is that of `n / 10` while `n` has two digits or more. -/
theorem eq_zero_of_head?_decDigits {fuel n : Nat} (h : n ≤ fuel)
    (leading : (decDigits fuel n).head? = some 0x30) : n = 0 := by
  induction fuel generalizing n with
  | zero => omega
  | succ fuel ih =>
    unfold decDigits at leading
    split at leading
    · have zero : decDigit n = 0x30 := by simpa using leading
      have value := toNat_decDigit ‹n < 10›
      rw [zero] at value
      simpa using value
    · rw [List.head?_append_of_ne_nil _ (decDigits_ne_nil _ _)] at leading
      have := ih (n := n / 10) (by omega) leading
      omega

/-- Settles O32, from what `decDigits` spells with fuel enough. -/
theorem decimalSpellingReadsBack : Obligations.DecimalSpellingReadsBack := by
  intro n
  refine ⟨?_, ?_, fun leading => ?_, dec_neg⟩
  · rw [dec_natCast, decValue_decDigits le_rfl]
  · rw [dec_natCast]
    exact decDigits_are_digits n n
  · rw [dec_natCast] at leading
    obtain rfl := eq_zero_of_head?_decDigits le_rfl leading
    exact ⟨rfl, rfl⟩

/-! The hexadecimal spelling. -/

theorem hexValue?_hexDigit {d : Nat} (h : d < 16) : hexValue? (hexDigit d) = some d := by
  have table : ∀ d < 16, hexValue? (hexDigit d) = some d := by decide
  exact table d h

/-- Settles O33: each digit reads back as one base-16 place of the number. -/
theorem hexSpellingReadsBack : Obligations.HexSpellingReadsBack := by
  intro n h
  have digit (m : Nat) : hexValue? (hexDigit (m % 16)) = some (m % 16) :=
    hexValue?_hexDigit (Nat.mod_lt m (by decide))
  exact ⟨_, _, _, _, n / 4096 % 16, n / 256 % 16, n / 16 % 16, n % 16, rfl,
    digit _, digit _, digit _, digit _, by omega⟩

end Sys2Proof.Proofs.Scope
end

section
/-! The statements that rest on 10_state.md: the reset values (R29), the phase cycle (R22), the trace (R28) and
the invariant of the registers (R25). -/

namespace Sys2Proof.Proofs.Registers

open Sys2Proof.Machine Sys2Proof.Claims

/-! What a legal configuration says of its numbers (00_scope.md R5). -/

theorem azMod_of_legal {c : Cfg} (h : c.legal = true) : c.azMod = 3600 := by
  simp only [Cfg.legal, Cfg.tickOk, Bool.and_eq_true, beq_iff_eq] at h
  tauto

theorem ranges_of_legal {c : Cfg} (h : c.legal = true) :
    c.elMin < c.elMax ∧ -32768 ≤ c.elMin ∧ c.elMax ≤ 32767 ∧ 0 ≤ c.azInit ∧ c.azInit ≤ 3599 ∧
      c.elMin ≤ c.elInit ∧ c.elInit ≤ c.elMax := by
  simp only [Cfg.legal, Cfg.rangeOk, Bool.and_eq_true, decide_eq_true_eq] at h
  tauto

theorem speedOf_le_of_legal {c : Cfg} (h : c.legal = true) (ax : Axis) : c.speedOf ax ≤ 65535 := by
  simp only [Cfg.legal, Cfg.speedOk, Bool.and_eq_true, decide_eq_true_eq] at h
  cases ax <;> simp only [Cfg.speedOf] <;> tauto

theorem pwmDutyOn_le_of_legal {c : Cfg} (h : c.legal = true) : c.pwmDutyOn ≤ 255 := by
  simp only [Cfg.legal, Cfg.pwmOk, Bool.and_eq_true, decide_eq_true_eq] at h
  tauto

/-! Values that fit a register are read back from it. -/

theorem toInt_angle {a : Int} (lower : -32768 ≤ a) (upper : a ≤ 32767) : (BitVec.ofInt 16 a : Angle).toInt = a := by
  rw [BitVec.toInt_ofInt]
  exact Int.bmod_eq_of_le (by omega) (by omega)

theorem toNat_speedParam {c : Cfg} (h : c.legal = true) (ax : Axis) :
    (c.speedParam ax).toNat =
      match c.strategy with
      | .busyWait => c.speedOf ax
      | .hwPwm => c.pwmDutyOn := by
  have speed := speedOf_le_of_legal h ax
  have duty := pwmDutyOn_le_of_legal h
  cases strategy : c.strategy <;> simp only [Cfg.speedParam, strategy, BitVec.toNat_ofNat] <;> omega

/-- Settles O51: every register is read off the reset record, and a legal configuration's values fit theirs. -/
theorem resetValues : Obligations.ResetValues := by
  refine ⟨fun c legal => ?_, rfl, rfl, fun s => rfl⟩
  obtain ⟨-, elMin, elMax, azLower, azUpper, elLower, elUpper⟩ := ranges_of_legal legal
  refine ⟨rfl, fun ax => ?_, toInt_angle (by omega) (by omega), toInt_angle (by omega) (by omega), rfl,
    fun p => by cases p <;> rfl, fun ax => by cases ax <;> rfl, rfl, rfl, rfl, rfl⟩
  cases ax
  case az => exact ⟨rfl, rfl, toNat_speedParam legal .az⟩
  case el => exact ⟨rfl, rfl, toNat_speedParam legal .el⟩

/-! The phase. -/

theorem runPoll_phase {s t : State} (h : runPoll s = .next t) : t.phase = .pulse := by
  obtain ⟨-, rfl⟩ | ⟨f, u, -, -, -, rfl⟩ := pollPhase_cases h
  · rfl
  · rfl

/-- Settles O35: what falls before the step leaves the phase, and each phase names the next. -/
theorem phaseCycleIsFixed : Obligations.PhaseCycleIsFixed := by
  intro s t noReset h
  have phase : (takeAsync s).phase = s.phase := by rw [takeAsync_noReset noReset]; rfl
  rw [← phase]
  obtain ⟨-, ⟨now, polled⟩ | ⟨now, rfl⟩ | ⟨now, rfl⟩ | ⟨now, rfl⟩⟩ := step_cases h
  · rw [now, runPoll_phase polled]; rfl
  all_goals rw [now]; rfl

/-! The trace: each operation extends it. -/

theorem setRun_trace_prefix (ax : Axis) (d : Dir) (s : State) : s.trace <+: (setRun ax d s).trace := by
  simp only [setRun]
  split <;> simp

theorem setIdle_trace_prefix (ax : Axis) (s : State) : s.trace <+: (setIdle ax s).trace := by
  simp only [setIdle]
  split <;> simp

theorem updateInd_trace_prefix (s : State) : s.trace <+: (updateInd s).trace := by
  simp [updateInd]

theorem echo_trace_prefix (src : Format) (c : Command) (s : State) : s.trace <+: (echo src c s).trace := by
  unfold echo
  split
  · exact List.prefix_rfl
  · split <;> simp

/-- A motion command ends with the indicator and the echo. -/
theorem echo_updateInd_trace_prefix {s u : State} (src : Format) (c : Command) (h : s.trace <+: u.trace) :
    s.trace <+: (echo src c (updateInd u)).trace :=
  (h.trans (updateInd_trace_prefix u)).trans (echo_trace_prefix src c _)

theorem acceptMotion_trace_prefix {c : Command} {s a : State} (h : s.trace <+: a.trace) :
    s.trace <+: (acceptMotion c s a).trace := by
  unfold acceptMotion
  split
  · exact List.prefix_rfl
  · exact h

theorem exec_trace_prefix {i : Instr} {s t : State} (h : exec i s = .next t) : s.trace <+: t.trace := by
  rw [exec_eq] at h
  cases h
  cases i.command with
  | stop =>
    exact echo_updateInd_trace_prefix _ _ ((setIdle_trace_prefix .az s).trans (setIdle_trace_prefix .el _))
  | stopAzOnly => exact acceptMotion_trace_prefix (echo_updateInd_trace_prefix _ _ (setIdle_trace_prefix _ _))
  | stopElOnly => exact acceptMotion_trace_prefix (echo_updateInd_trace_prefix _ _ (setIdle_trace_prefix _ _))
  | rotateAz d => exact acceptMotion_trace_prefix (echo_updateInd_trace_prefix _ _ (setRun_trace_prefix _ _ _))
  | rotateEl d => exact acceptMotion_trace_prefix (echo_updateInd_trace_prefix _ _ (setRun_trace_prefix _ _ _))
  | rotateBoth a e =>
    exact acceptMotion_trace_prefix (echo_updateInd_trace_prefix _ _
      ((setRun_trace_prefix .az a s).trans (setRun_trace_prefix .el e _)))
  | queryAz | queryEl | queryBoth => simp [replyAz, replyEl]
  | unknown info => exact List.prefix_rfl

theorem raiseError_trace_prefix (e : Error) (info : ErrorInfo) (s : State) :
    s.trace <+: (raiseError e info s).trace := by
  rw [raiseError_trace]
  exact List.prefix_append _ _

theorem acceptFrame_trace_prefix {f : RawFrame} {s t : State} (h : acceptFrame f s = .next t) :
    s.trace <+: t.trace := by
  obtain ⟨i, -, run⟩ | ⟨info, -, rfl⟩ | ⟨e, info, -, rfl⟩ := acceptFrame_cases h
  · exact exec_trace_prefix run
  · exact raiseError_trace_prefix _ _ _
  · exact raiseError_trace_prefix _ _ _

theorem runPoll_trace_prefix {s t : State} (h : runPoll s = .next t) : s.trace <+: t.trace := by
  obtain ⟨-, rfl⟩ | ⟨f, u, -, -, accepted, rfl⟩ := pollPhase_cases h
  · exact List.prefix_rfl
  · simpa using acceptFrame_trace_prefix accepted

theorem pulseAxis_trace_prefix (ax : Axis) (s : State) : s.trace <+: (pulseAxis ax s).trace := by
  unfold pulseAxis
  split
  · unfold busyWaitPulse
    split <;> simp
  · simp [pwmRefresh]

theorem pulsePhase_trace_prefix (s : State) : s.trace <+: (pulsePhase s).trace :=
  (pulseAxis_trace_prefix .az s).trans (pulseAxis_trace_prefix .el _)

/-- Settles O50: the phase that the step runs extends the trace. -/
theorem traceOnlyGrows : Obligations.TraceOnlyGrows := by
  intro s t noReset h
  have before : (takeAsync s).trace = s.trace := by rw [takeAsync_noReset noReset]; rfl
  suffices s.trace <+: t.trace by
    obtain ⟨evs, grown⟩ := this
    exact ⟨evs, grown.symm⟩
  rw [← before]
  obtain ⟨-, ⟨-, polled⟩ | ⟨-, rfl⟩ | ⟨-, rfl⟩ | ⟨-, rfl⟩⟩ := step_cases h
  · exact runPoll_trace_prefix polled
  · exact pulsePhase_trace_prefix _
  · rw [(tickPhase_frame _).trace]
  · exact List.prefix_rfl

/-! The invariant reads six fields. An operation that leaves them keeps it. -/

/-- The fields that the invariant reads are the same. -/
structure SameRegs (s t : State) : Prop where
  cfg : t.cfg = s.cfg
  az : t.az = s.az
  el : t.el = s.el
  lastCmd : t.lastCmd = s.lastCmd
  pin : t.pin = s.pin
  duty : t.duty = s.duty

theorem SameRegs.inv {s t : State} (same : SameRegs s t) (h : s.Inv) : t.Inv := by
  cases s
  cases t
  obtain ⟨rfl, rfl, rfl, rfl, rfl, rfl⟩ := same
  exact h

theorem raiseError_sameRegs (e : Error) (info : ErrorInfo) (s : State) : SameRegs s (raiseError e info s) := by
  constructor <;> simp

theorem setFrameBuf_sameRegs (f : RawFrame) (s : State) : SameRegs s (s.setFrameBuf f) :=
  ⟨rfl, rfl, rfl, rfl, rfl, rfl⟩

theorem setPhase_sameRegs (p : Phase) (s : State) : SameRegs s (s.setPhase p) := ⟨rfl, rfl, rfl, rfl, rfl, rfl⟩

theorem setPolls_sameRegs (p : List PollInput) (s : State) : SameRegs s (s.setPolls p) :=
  ⟨rfl, rfl, rfl, rfl, rfl, rfl⟩

theorem setAsync_sameRegs (a : List (List AsyncEvent)) (s : State) : SameRegs s (s.setAsync a) :=
  ⟨rfl, rfl, rfl, rfl, rfl, rfl⟩

theorem setTickPending_sameRegs (b : Bool) (s : State) : SameRegs s (s.setTickPending b) :=
  ⟨rfl, rfl, rfl, rfl, rfl, rfl⟩

theorem emitResp_sameRegs (l : List Byte) (s : State) : SameRegs s (emitResp l s) :=
  ⟨rfl, rfl, rfl, rfl, rfl, rfl⟩

/-! A motion command: `setRun` and `setIdle` leave the indicator and `last_cmd` behind for a moment. The rest of
the invariant holds throughout. -/

/-- The invariant without the indicator and `last_cmd`. -/
structure AxesOk (s : State) : Prop where
  legal : s.cfg.legal = true
  dirPins : s.dirPinsOk
  duties : s.dutiesOk
  pulses : s.pulsesLow
  angles : s.anglesOk
  speeds : s.speedsOk

theorem inv_iff (s : State) : s.Inv ↔ AxesOk s ∧ s.indOk ∧ s.lastCmdOk = true := by
  constructor
  · rintro ⟨legal, dirPins, duties, ind, pulses, angles, speeds, last⟩
    exact ⟨⟨legal, dirPins, duties, pulses, angles, speeds⟩, ind, last⟩
  · rintro ⟨⟨legal, dirPins, duties, pulses, angles, speeds⟩, ind, last⟩
    exact ⟨legal, dirPins, duties, ind, pulses, angles, speeds, last⟩

theorem setRun_axesOk {s : State} (ax : Axis) (d : Dir) (h : AxesOk s) : AxesOk (setRun ax d s) := by
  obtain ⟨azPin, elPin⟩ := h.dirPins
  obtain ⟨shown, zero⟩ := h.duties
  cases strategy : s.cfg.strategy with
  | hwPwm =>
    obtain ⟨azDuty, elDuty⟩ := shown strategy
    cases ax with
    | az =>
      rw [setRun_az_hwPwm d strategy]
      exact { h with dirPins := ⟨rfl, elPin⟩, duties := ⟨fun _ => ⟨rfl, elDuty⟩, by simp [strategy]⟩ }
    | el =>
      rw [setRun_el_hwPwm d strategy]
      exact { h with dirPins := ⟨azPin, rfl⟩, duties := ⟨fun _ => ⟨azDuty, rfl⟩, by simp [strategy]⟩ }
  | busyWait =>
    cases ax with
    | az =>
      rw [setRun_az_busyWait d strategy]
      exact { h with dirPins := ⟨rfl, elPin⟩, duties := ⟨by simp [strategy], zero⟩ }
    | el =>
      rw [setRun_el_busyWait d strategy]
      exact { h with dirPins := ⟨azPin, rfl⟩, duties := ⟨by simp [strategy], zero⟩ }

theorem setIdle_axesOk {s : State} (ax : Axis) (h : AxesOk s) : AxesOk (setIdle ax s) := by
  obtain ⟨shown, zero⟩ := h.duties
  cases strategy : s.cfg.strategy with
  | hwPwm =>
    obtain ⟨azDuty, elDuty⟩ := shown strategy
    cases ax with
    | az =>
      rw [setIdle_az_hwPwm strategy]
      exact { h with duties := ⟨fun _ => ⟨rfl, elDuty⟩, by simp [strategy]⟩ }
    | el =>
      rw [setIdle_el_hwPwm strategy]
      exact { h with duties := ⟨fun _ => ⟨azDuty, rfl⟩, by simp [strategy]⟩ }
  | busyWait =>
    obtain ⟨azPul, elPul⟩ := h.pulses strategy
    cases ax with
    | az =>
      rw [setIdle_az_busyWait strategy]
      exact { h with duties := ⟨by simp [strategy], zero⟩, pulses := fun _ => ⟨rfl, elPul⟩ }
    | el =>
      rw [setIdle_el_busyWait strategy]
      exact { h with duties := ⟨by simp [strategy], zero⟩, pulses := fun _ => ⟨azPul, rfl⟩ }

theorem updateInd_axesOk {s : State} (h : AxesOk s) : AxesOk (updateInd s) := by
  rw [updateInd_eq]
  exact { h with }

theorem updateInd_indOk (s : State) : (updateInd s).indOk := by
  rw [updateInd_eq]
  rfl

@[simp] theorem setRun_az_axes (d : Dir) (s : State) :
    (setRun .az d s).az = { s.az with direction := d, enabled := true } ∧ (setRun .az d s).el = s.el := by
  cases strategy : s.cfg.strategy <;> simp [setRun_az_hwPwm, setRun_az_busyWait, strategy]

@[simp] theorem setRun_el_axes (d : Dir) (s : State) :
    (setRun .el d s).az = s.az ∧ (setRun .el d s).el = { s.el with direction := d, enabled := true } := by
  cases strategy : s.cfg.strategy <;> simp [setRun_el_hwPwm, setRun_el_busyWait, strategy]

@[simp] theorem setIdle_az_axes (s : State) :
    (setIdle .az s).az = { s.az with enabled := false } ∧ (setIdle .az s).el = s.el := by
  cases strategy : s.cfg.strategy <;> simp [setIdle_az_hwPwm, setIdle_az_busyWait, strategy]

@[simp] theorem setIdle_el_axes (s : State) :
    (setIdle .el s).az = s.az ∧ (setIdle .el s).el = { s.el with enabled := false } := by
  cases strategy : s.cfg.strategy <;> simp [setIdle_el_hwPwm, setIdle_el_busyWait, strategy]

/-- The end of a motion command restores the invariant: the indicator is written and the command that the axes
show is recorded. -/
theorem inv_of_recorded {s : State} (src : Format) {c : Command} (h : AxesOk s) (shown : s.reflects c = true) :
    ((echo src c (updateInd s)).setLastCmd c).Inv := by
  have recorded : ((updateInd s).setLastCmd c).Inv :=
    (inv_iff _).mpr ⟨{ updateInd_axesOk h with }, updateInd_indOk s, shown⟩
  exact SameRegs.inv (by constructor <;> simp) recorded

theorem acceptMotion_inv {c : Command} {s a : State} (h : s.Inv) (applied : (a.setLastCmd c).Inv) :
    (acceptMotion c s a).Inv := by
  unfold acceptMotion
  split
  · exact h
  · exact applied

theorem exec_inv {i : Instr} {s t : State} (h : s.Inv) (run : exec i s = .next t) : t.Inv := by
  obtain ⟨axes, -, -⟩ := (inv_iff s).mp h
  rw [exec_eq] at run
  cases run
  cases i.command with
  | stop => exact inv_of_recorded _ (setIdle_axesOk .el (setIdle_axesOk .az axes)) (by simp [State.reflects])
  | stopAzOnly =>
    exact acceptMotion_inv h (inv_of_recorded _ (setIdle_axesOk .az axes) (by simp [State.reflects]))
  | stopElOnly =>
    exact acceptMotion_inv h (inv_of_recorded _ (setIdle_axesOk .el axes) (by simp [State.reflects]))
  | rotateAz d =>
    exact acceptMotion_inv h
      (inv_of_recorded _ (setRun_axesOk .az d axes) (by simp [State.reflects, AxisState.runs]))
  | rotateEl d =>
    exact acceptMotion_inv h
      (inv_of_recorded _ (setRun_axesOk .el d axes) (by simp [State.reflects, AxisState.runs]))
  | rotateBoth a e =>
    exact acceptMotion_inv h
      (inv_of_recorded _ (setRun_axesOk .el e (setRun_axesOk .az a axes))
        (by simp [State.reflects, AxisState.runs]))
  | queryAz => exact (emitResp_sameRegs _ _).inv h
  | queryEl => exact (emitResp_sameRegs _ _).inv h
  | queryBoth => exact (emitResp_sameRegs _ _).inv ((emitResp_sameRegs _ _).inv h)
  | unknown info => exact h

theorem acceptFrame_inv {f : RawFrame} {s t : State} (h : s.Inv) (accepted : acceptFrame f s = .next t) :
    t.Inv := by
  obtain ⟨i, -, run⟩ | ⟨info, -, rfl⟩ | ⟨e, info, -, rfl⟩ := acceptFrame_cases accepted
  · exact exec_inv h run
  · exact (raiseError_sameRegs _ _ _).inv h
  · exact (raiseError_sameRegs _ _ _).inv h

theorem runPoll_inv {s t : State} (h : s.Inv) (polled : runPoll s = .next t) : t.Inv := by
  have used := (setPolls_sameRegs s.polls.tail s).inv h
  obtain ⟨-, rfl⟩ | ⟨f, u, -, -, accepted, rfl⟩ := pollPhase_cases polled
  · exact (setPhase_sameRegs _ _).inv used
  · exact (setPhase_sameRegs _ _).inv (acceptFrame_inv ((setFrameBuf_sameRegs f _).inv used) accepted)

/-! A pulse. Under the invariant it writes back what the registers hold: a pulse pin returns to LOW, and a
refreshed duty is the one shown. -/

theorem busyWaitPulse_pin (ax : Axis) (s : State) (low : s.pinOf (pulPin ax) = .low) :
    (busyWaitPulse ax s).pin = s.pin := by
  unfold busyWaitPulse
  split
  · cases ax <;> simp [pulPin, ← low, State.pinOf]
  · rfl

theorem pwmRefresh_duty (ax : Axis) (s : State) (shown : s.dutyOf ax = dutyFor s.cfg (s.axis ax)) :
    (pwmRefresh ax s).duty = s.duty := by
  change (s.setDuty ax (dutyFor s.cfg (s.axis ax))).duty = s.duty
  rw [← shown]
  cases ax <;> rfl

theorem pulseAxis_pin (ax : Axis) {s : State} (h : s.pulsesLow) : (pulseAxis ax s).pin = s.pin := by
  unfold pulseAxis
  split
  · obtain ⟨azPul, elPul⟩ := h ‹_›
    exact busyWaitPulse_pin ax s (by cases ax <;> assumption)
  · exact dutyWrite_pin _ _ _

theorem pulseAxis_duty (ax : Axis) {s : State} (h : s.dutiesOk) : (pulseAxis ax s).duty = s.duty := by
  unfold pulseAxis
  split
  · unfold busyWaitPulse
    split <;> simp
  · obtain ⟨azDuty, elDuty⟩ := h.1 ‹_›
    exact pwmRefresh_duty ax s (by cases ax <;> assumption)

theorem pulseAxis_inv (ax : Axis) {s : State} (h : s.Inv) : (pulseAxis ax s).Inv := by
  obtain ⟨axes, -, -⟩ := (inv_iff s).mp h
  obtain ⟨cfg, az, el, lastCmd, -, -, -, -⟩ := pulseAxis_frame ax s
  exact SameRegs.inv ⟨cfg, az, el, lastCmd, pulseAxis_pin ax axes.pulses, pulseAxis_duty ax axes.duties⟩ h

theorem pulsePhase_inv {s : State} (h : s.Inv) : (pulsePhase s).Inv :=
  (setPhase_sameRegs _ _).inv (pulseAxis_inv .el (pulseAxis_inv .az h))

/-! An angle update: the next angle is in range, and nothing else is written. -/

theorem azNext_in_range {c : Cfg} (legal : c.legal = true) (d : Dir) (a : Angle) :
    0 ≤ (azNext c d a).toInt ∧ (azNext c d a).toInt ≤ 3599 := by
  have lower := Int.emod_nonneg (a.toInt + angleStep c d) (b := 3600) (by decide)
  have upper := Int.emod_lt_of_pos (a.toInt + angleStep c d) (b := 3600) (by decide)
  rw [azNext, azMod_of_legal legal, Nat.cast_ofNat, toInt_angle (by omega) (by omega)]
  omega

theorem clamp_in_range {lo hi : Int} (v : Int) (h : lo ≤ hi) : lo ≤ clamp v lo hi ∧ clamp v lo hi ≤ hi := by
  unfold clamp
  split_ifs <;> omega

theorem elNext_in_range {c : Cfg} (legal : c.legal = true) (d : Dir) (a : Angle) :
    c.elMin ≤ (elNext c d a).toInt ∧ (elNext c d a).toInt ≤ c.elMax := by
  obtain ⟨order, elMin, elMax, -⟩ := ranges_of_legal legal
  obtain ⟨lower, upper⟩ := clamp_in_range (a.toInt + angleStep c d) order.le
  rw [elNext, toInt_angle (by omega) (by omega)]
  exact ⟨lower, upper⟩

/-- The invariant reads an angle only in its range. -/
theorem setAngle_inv {s : State} (ax : Axis) (a : Angle) (h : s.Inv) (inRange : (s.setAngle ax a).anglesOk) :
    (s.setAngle ax a).Inv := by
  obtain ⟨axes, ind, last⟩ := (inv_iff s).mp h
  cases ax
  all_goals exact (inv_iff _).mpr ⟨{ axes with angles := inRange }, ind, last⟩

theorem angleUpdateAz_inv {s : State} (h : s.Inv) : (angleUpdateAz s).Inv := by
  obtain ⟨⟨legal, -, -, -, ⟨-, -, elevation⟩, -⟩, -, -⟩ := (inv_iff s).mp h
  unfold angleUpdateAz
  split
  · obtain ⟨lower, upper⟩ := azNext_in_range legal s.az.direction s.az.angle
    exact setAngle_inv .az _ h ⟨lower, upper, elevation⟩
  · exact h

theorem angleUpdateEl_inv {s : State} (h : s.Inv) : (angleUpdateEl s).Inv := by
  obtain ⟨⟨legal, -, -, -, ⟨azLower, azUpper, -⟩, -⟩, -, -⟩ := (inv_iff s).mp h
  unfold angleUpdateEl
  split
  · exact setAngle_inv .el _ h ⟨azLower, azUpper, elNext_in_range legal s.el.direction s.el.angle⟩
  · exact h

theorem tickPhase_inv {s : State} (h : s.Inv) : (tickPhase s).Inv := by
  refine (setPhase_sameRegs .status _).inv ?_
  split
  · exact angleUpdateEl_inv (angleUpdateAz_inv ((setTickPending_sameRegs false s).inv h))
  · exact h

/-! What falls between two atomic steps. -/

theorem resetWith_inv {c : Cfg} (legal : c.legal = true) : (State.resetWith c).Inv := by
  obtain ⟨-, elMin, elMax, azLower, azUpper, elLower, elUpper⟩ := ranges_of_legal legal
  have az : (State.resetWith c).az.angle.toInt = c.azInit := toInt_angle (by omega) (by omega)
  have el : (State.resetWith c).el.angle.toInt = c.elInit := toInt_angle (by omega) (by omega)
  refine (inv_iff _).mpr ⟨⟨legal, ⟨rfl, rfl⟩, ⟨fun _ => ⟨rfl, rfl⟩, fun _ => ⟨rfl, rfl⟩⟩, fun _ => ⟨rfl, rfl⟩,
    ?_, ⟨rfl, rfl⟩⟩, rfl, rfl⟩
  rw [State.anglesOk, az, el]
  exact ⟨azLower, azUpper, elLower, elUpper⟩

theorem asyncEvent_inv {s : State} (e : AsyncEvent) (h : s.Inv) : (asyncEvent s e).Inv := by
  obtain ⟨axes, -, -⟩ := (inv_iff s).mp h
  cases e with
  | tickFire => exact (setTickPending_sameRegs true s).inv h
  | reset => exact (setAsync_sameRegs _ _).inv ((setPolls_sameRegs _ _).inv (resetWith_inv axes.legal))

theorem foldl_asyncEvent_inv (evs : List AsyncEvent) {s : State} (h : s.Inv) :
    (evs.foldl asyncEvent s).Inv := by
  induction evs generalizing s with
  | nil => exact h
  | cons e evs ih => exact ih (asyncEvent_inv e h)

theorem takeAsync_inv {s : State} (h : s.Inv) : (takeAsync s).Inv :=
  foldl_asyncEvent_inv _ ((setAsync_sameRegs _ s).inv h)

/-- Settles O56: each atomic step keeps the invariant, as its own lemma says. -/
theorem eachAtomicStepKeepsInvariant : Obligations.EachAtomicStepKeepsInvariant :=
  fun _ h => ⟨fun _ _ => acceptFrame_inv h, fun ax => pulseAxis_inv ax h, angleUpdateAz_inv h,
    angleUpdateEl_inv h, fun e => asyncEvent_inv e h⟩

/-- Settles O55: the events before the step and then the phase that it runs keep the invariant. -/
theorem everyStepKeepsInvariant : Obligations.EveryStepKeepsInvariant := by
  intro s t h stepped
  have before := takeAsync_inv h
  obtain ⟨-, ⟨-, polled⟩ | ⟨-, rfl⟩ | ⟨-, rfl⟩ | ⟨-, rfl⟩⟩ := step_cases stepped
  · exact runPoll_inv before polled
  · exact pulsePhase_inv before
  · exact tickPhase_inv before
  · exact (setPhase_sameRegs .poll _).inv before

end Sys2Proof.Proofs.Registers
end

section
/-! The statement that rests on 20_memory.md: what writes the frame buffer, the block's only store (R40, R42). -/

namespace Sys2Proof.Proofs.Memory

open Sys2Proof.Machine Sys2Proof.Claims

/-- A byte of the buffer is read off the frame the buffer holds. -/
theorem readByte_congr {s t : State} (h : t.frameBuf = s.frameBuf) (a : Nat) : readByte t a = readByte s a := by
  simp only [readByte, bufferBytes, h]

theorem readByte_of_frameBuf {s : State} {f : RawFrame} (h : s.frameBuf = some f) (a : Nat) :
    readByte s a = f.bytes[a]? := by
  simp only [readByte, bufferBytes, h]

/-! Which frame a phase takes. -/

theorem takenFrame_of_not_poll {s : State} (h : s.phase ≠ .poll) : takenFrame s = none := by
  simp [takenFrame, h]

theorem takenFrame_eq_none {s : State} (h : (nextPoll s).disc = true ∨ (nextPoll s).rx = none) :
    takenFrame s = none := by
  obtain disconnected | nothing := h
  · simp [takenFrame, disconnected]
  · simp [takenFrame, nothing]

theorem takenFrame_eq_some {s : State} {f : RawFrame} (phase : s.phase = .poll)
    (connected : (nextPoll s).disc = false) (offered : (nextPoll s).rx = some f) : takenFrame s = some f := by
  simp [takenFrame, phase, connected, offered]

/-- Expiries before a step do not change which frame it takes. -/
theorem takenFrame_takeAsync {s : State} (h : s.noResetNow) : takenFrame (takeAsync s) = takenFrame s := by
  rw [takeAsync_noReset h]
  rfl

/-! What the buffer holds after each operation. -/

theorem acceptFrame_frameBuf {f : RawFrame} {s t : State} (h : acceptFrame f s = .next t) :
    t.frameBuf = s.frameBuf := by
  obtain ⟨i, -, run⟩ | ⟨info, -, rfl⟩ | ⟨e, info, -, rfl⟩ := acceptFrame_cases h
  · exact (exec_sameFrame run).frameBuf
  · exact raiseError_frameBuf _ _ _
  · exact raiseError_frameBuf _ _ _

theorem runPoll_frameBuf {s t : State} (phase : s.phase = .poll) (h : runPoll s = .next t) :
    t.frameBuf = (takenFrame s).or s.frameBuf := by
  obtain ⟨nothing, rfl⟩ | ⟨f, u, connected, offered, accepted, rfl⟩ := pollPhase_cases h
  · rw [takenFrame_eq_none nothing]
    rfl
  · rw [takenFrame_eq_some phase connected offered]
    exact acceptFrame_frameBuf accepted

/-- After a step without a reset the buffer holds the frame taken, or what it held. -/
theorem step_frameBuf {s t : State} (noReset : s.noResetNow) (h : step s = .next t) :
    t.frameBuf = (takenFrame s).or s.frameBuf := by
  have before : (takeAsync s).frameBuf = s.frameBuf := by rw [takeAsync_noReset noReset]; rfl
  rw [← takenFrame_takeAsync noReset, ← before]
  obtain ⟨-, ⟨now, polled⟩ | ⟨now, rfl⟩ | ⟨now, rfl⟩ | ⟨now, rfl⟩⟩ := step_cases h
  · exact runPoll_frameBuf now polled
  · rw [takenFrame_of_not_poll (by simp [now])]
    exact (pulsePhase_frame _).frameBuf
  · rw [takenFrame_of_not_poll (by simp [now])]
    exact (tickPhase_frame _).frameBuf
  · rw [takenFrame_of_not_poll (by simp [now])]
    rfl

/-- Settles O48: no instruction writes the buffer, and a step leaves it the frame taken or what it held. -/
theorem onlyPollFillsTheBuffer : Obligations.OnlyPollFillsTheBuffer := by
  refine ⟨fun i s t run => readByte_congr (exec_sameFrame run).frameBuf, fun s t noReset stepped a => ?_⟩
  have held := step_frameBuf noReset stepped
  cases taken : takenFrame s with
  | none => exact readByte_congr (by simpa [taken] using held) a
  | some f => exact readByte_of_frameBuf (by simpa [taken] using held) a

end Sys2Proof.Proofs.Memory
end

section
/-! The statements that rest on 30_encoding.md: that encoding and decoding undo each other (R61, R64, R65, R69,
R70), which codes are mapped (R66, R67) and what the two query codes ask (R68). -/

namespace Sys2Proof.Proofs.Encoding

open Sys2Proof.Machine Sys2Proof.Claims Sys2Proof.Proofs.Scope

/-! What a legal configuration says about the decoder's parameters. -/

theorem offsetOk_of_legal {c : Cfg} (h : c.legal = true) : c.offsetOk = true := by
  simp_all [Cfg.legal]

theorem queryOk_of_legal {c : Cfg} (h : c.legal = true) : c.queryOk = true := by
  simp_all [Cfg.legal]

theorem offsetOk_iff (c : Cfg) : c.offsetOk = true ↔ c.cmdOffset = 3 ∨ c.cmdOffset = 6 := by
  simp [Cfg.offsetOk]

/-! Text lines: whitespace around a line is trimmed, and a token holds none. -/

theorem trim_eq_rdropWhile (t : List Byte) : trim t = (t.dropWhile isSpace).rdropWhile isSpace := rfl

theorem trim_append_left {p : List Byte} (h : p.all isSpace = true) (t : List Byte) : trim (p ++ t) = trim t := by
  rw [trim_eq_rdropWhile, trim_eq_rdropWhile, List.dropWhile_append_of_pos (List.all_eq_true.mp h)]

theorem trim_eq_self {t : List Byte} (h : ∀ b ∈ t, isSpace b = false) : trim t = t := by
  have front : t.dropWhile isSpace = t :=
    List.dropWhile_eq_self_iff.mpr fun hl => by simp [h _ (List.getElem_mem hl)]
  have back : t.rdropWhile isSpace = t :=
    List.rdropWhile_eq_self_iff.mpr fun hl => by simp [h _ (List.getLast_mem hl)]
  rw [trim_eq_rdropWhile, front, back]

theorem rdropWhile_append_right {q : List Byte} (h : q.all isSpace = true) (t : List Byte) :
    (t ++ q).rdropWhile isSpace = t.rdropWhile isSpace := by
  have spaces : ∀ b ∈ q.reverse, isSpace b = true := by simpa using h
  rw [List.rdropWhile, List.reverse_append, List.dropWhile_append_of_pos spaces, List.rdropWhile]

theorem trim_append_right {q : List Byte} (h : q.all isSpace = true) (t : List Byte) : trim (t ++ q) = trim t := by
  have blank : q.dropWhile isSpace = [] := List.dropWhile_eq_nil_iff.mpr (List.all_eq_true.mp h)
  rw [trim_eq_rdropWhile, List.dropWhile_append, trim_eq_rdropWhile]
  split
  · next onlySpaces => rw [blank, List.isEmpty_iff.mp onlySpaces]
  · exact rdropWhile_append_right h _

/-- Every line is its trimmed token with whitespace around it. -/
theorem lineHas_trim (t : List Byte) : LineHas (trim t) (.text t) := by
  refine ⟨t.takeWhile isSpace, (t.dropWhile isSpace).rtakeWhile isSpace, ?_, ?_, ?_⟩
  · rw [trim_eq_rdropWhile, List.append_assoc, List.rdropWhile_append_rtakeWhile, List.takeWhile_append_dropWhile]
  · exact List.all_takeWhile
  · exact List.all_eq_true.mpr fun b h => List.mem_rtakeWhile_imp h

theorem opcode_not_space (i : Instr) (h : i.src = .text) : ∀ b ∈ i.opcode, isSpace b = false := by
  have tokens : ∀ r ∈ tokenTable, ∀ b ∈ r.1, isSpace b = false := by decide
  exact tokens _ (mem_of_lookup_eq_some ((tokenTable_lookup i.opcode i).mpr ⟨h, rfl⟩))

/-- A line decodes to an instruction exactly where it is that instruction's token with whitespace around it
(40_decoder.md R85). -/
theorem decodeText_eq_instr (t : List Byte) (i : Instr) :
    decodeText t = .instr i ↔ i.src = .text ∧ LineHas i.opcode (.text t) := by
  have looked : decodeText t = .instr i ↔ tokenTable.lookup (trim t) = some i := by
    cases row : tokenTable.lookup (trim t) <;> simp [decodeText, row]
  rw [looked, tokenTable_lookup]
  constructor
  · rintro ⟨src, token⟩
    exact ⟨src, token ▸ lineHas_trim t⟩
  · rintro ⟨src, p, q, ⟨rfl⟩, before, after⟩
    rw [trim_append_right after, trim_append_left before, trim_eq_self (opcode_not_space i src)]
    exact ⟨src, rfl⟩

/-! Binary frames: a valid one carries a code, and is the encoder's frame of that code. -/

theorem memRead_of_getElem? {b : List Byte} {i : Nat} {x : Byte} (h : b[i]? = some x) : memRead b i = x := by
  simp [memRead, List.getD_eq_getElem?_getD, h]

theorem decode_frameHas {c : Cfg} {code : Byte} {f : RawFrame} (h : FrameHas c code f) :
    decode c f = decodeCode c code := by
  obtain ⟨b, rfl, len, sync0, sync1, at_offset⟩ := h
  simp [decode, decodeBinary, len, memRead_of_getElem? sync0, memRead_of_getElem? sync1,
    memRead_of_getElem? at_offset]

/-- A binary frame carries a code, or fails a check that reads nothing of the configuration (40_decoder.md R81,
R82). -/
theorem frameHas_or_invalid {c : Cfg} (h : c.offsetOk = true) (b : List Byte) :
    (∃ code, FrameHas c code (.binary b)) ∨ ∃ e info, ∀ c', decode c' (.binary b) = .invalid e info := by
  by_cases len : b.length = 7
  · by_cases sync : memRead b 0 ≠ 0xFF ∨ memRead b 1 ≠ 0x01
    · exact .inr ⟨_, _, fun c' => by rw [decode, decodeBinary, if_neg (not_not.mpr len), if_pos sync]⟩
    · have inside : c.cmdOffset < b.length := by
        have := (offsetOk_iff c).mp h
        omega
      have read : ∀ i < b.length, b[i]? = some (memRead b i) := fun i hi => by
        simp [memRead, List.getD_eq_getElem?_getD, hi]
      push Not at sync
      refine .inl ⟨memRead b c.cmdOffset, b, rfl, len, ?_, ?_, read _ inside⟩
      · rw [read 0 (by omega), sync.1]
      · rw [read 1 (by omega), sync.2]
  · exact .inr ⟨_, _, fun c' => by rw [decode, decodeBinary, if_pos len]⟩

theorem frameHas_binaryFrame {c : Cfg} (h : c.offsetOk = true) (k : Slack) (code : Byte) :
    FrameHas c code (.binary (binaryFrame c k code)) := by
  obtain offset | offset := (offsetOk_iff c).mp h
  · exact ⟨_, rfl, by simp [binaryFrame, offset]⟩
  · exact ⟨_, rfl, by simp [binaryFrame, offset]⟩

/-- The bytes beside sync and code of a frame that carries a code are the slack that builds it (30_encoding.md
R64). -/
theorem exists_slack_of_frameHas {c : Cfg} (h : c.offsetOk = true) {code : Byte} {f : RawFrame}
    (carried : FrameHas c code f) : ∃ k : Slack, k.wf = true ∧ f = .binary (binaryFrame c k code) := by
  obtain ⟨b, rfl, len, sync0, sync1, at_offset⟩ := carried
  match b, len with
  | [b0, b1, b2, b3, b4, b5, b6], _ =>
    obtain offset | offset := (offsetOk_iff c).mp h
    · refine ⟨{ Slack.zero with r1 := b2, r2 := b4, r3 := b5, r4 := b6 }, rfl, ?_⟩
      simp_all [binaryFrame]
    · refine ⟨{ Slack.zero with r1 := b2, r2 := b3, r3 := b4, r4 := b5 }, rfl, ?_⟩
      simp_all [binaryFrame]

/-! The lookup of a code byte. -/

theorem codeTable_lookup_isSome (code : Byte) : (codeTable.lookup code).isSome ↔ code ∈ mappedCodes := by
  have codes : mappedCodes = codeTable.map Prod.fst := rfl
  simp [List.lookup_isSome_iff, codes]

theorem codeTable_lookup_eq_none (code : Byte) : codeTable.lookup code = none ↔ code ∉ mappedCodes := by
  rw [← codeTable_lookup_isSome, Option.not_isSome_iff_eq_none]

/-- The mapped codes are ten of the codes below 0x20 (30_encoding.md R65), so 22 + 224 codes are left. -/
theorem length_unmappedCodes :
    ((List.range 256).filter fun n => !mappedCodes.contains (BitVec.ofNat 8 n)).length = 246 := by
  have below : ∀ code ∈ mappedCodes, code.toNat < 32 := by decide
  rw [show 256 = 32 + 224 from rfl, List.range_add, List.filter_append, List.length_append,
    (List.filter_eq_self (l := (List.range 224).map (32 + ·))).mpr, List.length_map, List.length_range]
  · decide
  · intro n hn
    obtain ⟨m, hm, rfl⟩ := List.mem_map.mp hn
    have small := List.mem_range.mp hm
    have unmapped : BitVec.ofNat 8 (32 + m) ∉ mappedCodes := fun mapped => by
      have low := below _ mapped
      rw [BitVec.toNat_ofNat] at low
      omega
    simpa using unmapped

/-- The two query codes are distinct and unmapped (30_encoding.md R68). -/
theorem queryCodes_of_queryOk {c : Cfg} (h : c.queryOk = true) {qAz qEl : Byte}
    (query : c.binQuery = some (qAz, qEl)) : qAz ≠ qEl ∧ qAz ∉ mappedCodes ∧ qEl ∉ mappedCodes := by
  simp only [Cfg.queryOk, query, Bool.and_eq_true, bne_iff_ne, Bool.not_eq_true', List.contains_eq_mem,
    decide_eq_false_iff_not] at h
  obtain ⟨⟨⟨distinct, azUnmapped⟩, elUnmapped⟩, -⟩ := h
  exact ⟨distinct, azUnmapped, elUnmapped⟩

theorem queryCode_of_noQuery {c : Cfg} (noQuery : c.binQuery = none) (code : Byte) : queryCode c code = none := by
  simp [queryCode, noQuery]

theorem queryCode_eq {c : Cfg} {qAz qEl : Byte} (query : c.binQuery = some (qAz, qEl)) (code : Byte) :
    queryCode c code = if code = qAz then some .tC else if code = qEl then some .tB else none := by
  simp [queryCode, query]

theorem queryCode_eq_some {c : Cfg} {code : Byte} {i : Instr} (h : queryCode c code = some i) :
    i = .tC ∨ i = .tB := by
  cases query : c.binQuery with
  | none => simp [queryCode_of_noQuery query] at h
  | some codes =>
    rw [queryCode_eq query] at h
    split_ifs at h
    · exact .inl (Option.some.inj h).symm
    · exact .inr (Option.some.inj h).symm

theorem queryCode_of_mapped {c : Cfg} (h : c.queryOk = true) {code : Byte} (mapped : code ∈ mappedCodes) :
    queryCode c code = none := by
  cases query : c.binQuery with
  | none => exact queryCode_of_noQuery query code
  | some codes =>
    obtain ⟨-, azUnmapped, elUnmapped⟩ := queryCodes_of_queryOk h query
    have notAz : code ≠ codes.1 := ne_of_mem_of_not_mem mapped azUnmapped
    have notEl : code ≠ codes.2 := ne_of_mem_of_not_mem mapped elUnmapped
    rw [queryCode_eq query, if_neg notAz, if_neg notEl]

/-- A code byte names a query, a row of the binary map, or nothing (40_decoder.md R83). -/
theorem decodeCode_cases {c : Cfg} {code : Byte} {d : Decoded} (h : decodeCode c code = d) :
    (∃ i, queryCode c code = some i ∧ d = .instr i) ∨
    (∃ i, queryCode c code = none ∧ codeTable.lookup code = some i ∧ d = .instr i) ∨
    (queryCode c code = none ∧ codeTable.lookup code = none ∧ d = .unknown (.code code)) := by
  subst h
  cases query : queryCode c code <;> cases row : codeTable.lookup code <;> simp [decodeCode, query, row]

/-- The configuration enters the lookup through the query codes only. -/
theorem decodeCode_congr {c c' : Cfg} {code : Byte} (h : queryCode c code = queryCode c' code) :
    decodeCode c code = decodeCode c' code := by
  simp only [decodeCode, h]

theorem decodeCode_of_queryCode {c : Cfg} {code : Byte} {i : Instr} (h : queryCode c code = some i) :
    decodeCode c code = .instr i := by
  simp only [decodeCode, h]

theorem decodeCode_of_lookup {c : Cfg} (h : c.queryOk = true) {code : Byte} {i : Instr}
    (row : codeTable.lookup code = some i) : decodeCode c code = .instr i := by
  have mapped : code ∈ mappedCodes := (codeTable_lookup_isSome code).mp (by simp [row])
  simp [decodeCode, queryCode_of_mapped h mapped, row]

theorem decodeCode_of_unmapped {c : Cfg} (noQuery : c.binQuery = none) {code : Byte} (h : code ∉ mappedCodes) :
    decodeCode c code = .unknown (.code code) := by
  simp [decodeCode, queryCode_of_noQuery noQuery, (codeTable_lookup_eq_none code).mpr h]

/-- No code byte is `QueryBoth`, which has a token only (30_encoding.md R68). -/
theorem decodeCode_ne_tC2 (c : Cfg) (code : Byte) : decodeCode c code ≠ .instr .tC2 := by
  intro h
  obtain ⟨i, query, ⟨⟩⟩ | ⟨i, -, row, ⟨⟩⟩ | ⟨-, -, ⟨⟩⟩ := decodeCode_cases h
  · obtain ⟨⟨⟩⟩ | ⟨⟨⟩⟩ := queryCode_eq_some query
  · obtain ⟨⟨⟩, -⟩ := (codeTable_lookup code _).mp row

theorem command?_eq_queryBoth {d : Decoded} (h : d.command? = some .queryBoth) : d = .instr .tC2 := by
  cases d with
  | instr i => cases i <;> simp_all [Decoded.command?, Instr.command]
  | unknown info => simp [Decoded.command?] at h
  | invalid e info => simp [Decoded.command?] at h

/-! The encoder, by the format of the row. -/

theorem exists_code_of_binary {i : Instr} (h : i.src = .binary) : ∃ code, i.opcode = [code] := by
  cases i <;> simp_all [Instr.src, Instr.opcode]

theorem encodeWith_of_code {i : Instr} {code : Byte} (src : i.src = .binary) (row : i.opcode = [code]) (c : Cfg)
    (k : Slack) : encodeWith c k i = .binary (binaryFrame c k code) := by
  simp [encodeWith, src, row]

theorem encodeWith_of_text {i : Instr} (src : i.src = .text) (c : Cfg) (k : Slack) :
    encodeWith c k i = .text (k.lead ++ i.opcode ++ k.trail) := by
  simp [encodeWith, src]

/-! The statements. -/

/-- Settles O1: a binary row's frame carries its code, and a text row's line is its token padded with whitespace. -/
theorem decodeEncodeAgree : Obligations.DecodeEncodeAgree := by
  intro c k i legal wf
  cases src : i.src with
  | binary =>
    obtain ⟨code, row⟩ := exists_code_of_binary src
    rw [encodeWith_of_code src row, decode_frameHas (frameHas_binaryFrame (offsetOk_of_legal legal) k code)]
    exact decodeCode_of_lookup (queryOk_of_legal legal) ((codeTable_lookup code i).mpr ⟨src, row⟩)
  | text =>
    obtain ⟨before, after⟩ := (Bool.and_eq_true _ _).mp wf
    rw [encodeWith_of_text src]
    exact (decodeText_eq_instr _ i).mpr ⟨src, k.lead, k.trail, rfl, before, after⟩

/-- Settles O2: a binary frame that decodes carries a code, whose other bytes are the slack; a line that decodes is
the token with whitespace around it. -/
theorem decodedFramesAreEncodings : Obligations.DecodedFramesAreEncodings := by
  intro c f i legal noQuery decoded
  have offset := offsetOk_of_legal legal
  cases f with
  | binary b =>
    obtain ⟨code, carried⟩ | ⟨e, info, invalid⟩ := frameHas_or_invalid offset b
    · rw [decode_frameHas carried, decodeCode_eq_instr noQuery, codeTable_lookup] at decoded
      obtain ⟨src, row⟩ := decoded
      obtain ⟨k, wf, built⟩ := exists_slack_of_frameHas offset carried
      exact ⟨k, wf, by rw [encodeWith_of_code src row, built]⟩
    · rw [invalid c] at decoded
      cases decoded
  | text t =>
    obtain ⟨src, p, q, line, before, after⟩ := (decodeText_eq_instr t i).mp decoded
    refine ⟨{ Slack.zero with lead := p, trail := q }, ?_, ?_⟩
    · rw [Slack.wf, before, after, Bool.and_self]
    · rw [encodeWith_of_text src, line]

/-- Settles O7: a valid frame decodes as its code byte, which the binary map answers exactly where it is mapped. -/
theorem unmappedCodesAreUnknown : Obligations.UnmappedCodesAreUnknown := by
  refine ⟨fun c f code noQuery carried unmapped => ?_, fun c f code noQuery carried mapped => ?_,
    length_unmappedCodes⟩
  · rw [decode_frameHas carried, decodeCode_of_unmapped noQuery unmapped]
  · obtain ⟨i, row⟩ := Option.isSome_iff_exists.mp ((codeTable_lookup_isSome code).mpr mapped)
    exact ⟨i, by rw [decode_frameHas carried, (decodeCode_eq_instr noQuery code i).mpr row]⟩

/-- Settles O10: the query codes are looked up first, and a frame without them is looked up as if there were
none. -/
theorem queryMarkersDecode : Obligations.QueryMarkersDecode := by
  intro c qAz qEl legal query
  have offset := offsetOk_of_legal legal
  obtain ⟨distinct, -, -⟩ := queryCodes_of_queryOk (queryOk_of_legal legal) query
  refine ⟨fun f carried => ?_, fun f carried => ?_, fun f notAz notEl => ?_, fun b asked => ?_⟩
  · have marks : queryCode c qAz = some .tC := by rw [queryCode_eq query, if_pos rfl]
    rw [decode_frameHas carried, decodeCode_of_queryCode marks]
    rfl
  · have marks : queryCode c qEl = some .tB := by rw [queryCode_eq query, if_neg distinct.symm, if_pos rfl]
    rw [decode_frameHas carried, decodeCode_of_queryCode marks]
    rfl
  · cases f with
    | text t => rfl
    | binary b =>
      obtain ⟨code, carried⟩ | ⟨e, info, invalid⟩ := frameHas_or_invalid offset b
      · have plain : queryCode c code = none := by
          rw [queryCode_eq query, if_neg, if_neg]
          · exact fun isEl => notEl (isEl ▸ carried)
          · exact fun isAz => notAz (isAz ▸ carried)
        have carriedWithout : FrameHas { c with binQuery := none } code (.binary b) := carried
        rw [decode_frameHas carried, decode_frameHas carriedWithout]
        exact decodeCode_congr (plain.trans (queryCode_of_noQuery rfl code).symm)
      · rw [invalid c, invalid]
  · have decoded := command?_eq_queryBoth asked
    obtain ⟨code, carried⟩ | ⟨e, info, invalid⟩ := frameHas_or_invalid offset b
    · rw [decode_frameHas carried] at decoded
      exact decodeCode_ne_tC2 c code decoded
    · rw [invalid c] at decoded
      cases decoded

end Sys2Proof.Proofs.Encoding
end

section
/-! The statements that rest on 40_decoder.md: malformed binary frames (R81, R82), text lines (R84, R85), the
duplicate check and `last_cmd` (R88 to R92) and the input that a step takes (R94). -/

namespace Sys2Proof.Proofs.Decoder

open Sys2Proof.Machine Sys2Proof.Claims Sys2Proof.Proofs.Registers Sys2Proof.Proofs.Memory
  Sys2Proof.Proofs.Encoding

/-! Binary frames. -/

theorem decode_of_length_ne {c : Cfg} {b : List Byte} (len : b.length ≠ 7) :
    decode c (.binary b) = .invalid .frameTooShort (.length b.length) := by
  rw [decode, decodeBinary, if_pos len]

theorem decode_of_badSync {c : Cfg} {b : List Byte} (len : b.length = 7)
    (sync : memRead b 0 ≠ 0xFF ∨ memRead b 1 ≠ 0x01) :
    decode c (.binary b) = .invalid .badSyncBytes (.syncBytes (memRead b 0) (memRead b 1)) := by
  rw [decode, decodeBinary, if_neg (not_not.mpr len), if_pos sync]

/-- A binary frame fails the length check, fails the sync check, or decodes as its code byte (40_decoder.md R81 to
R83). -/
theorem decode_binary_cases {c : Cfg} {b : List Byte} {d : Decoded} (h : decode c (.binary b) = d) :
    (b.length ≠ 7 ∧ d = .invalid .frameTooShort (.length b.length)) ∨
    (b.length = 7 ∧ (memRead b 0 ≠ 0xFF ∨ memRead b 1 ≠ 0x01) ∧
      d = .invalid .badSyncBytes (.syncBytes (memRead b 0) (memRead b 1))) ∨
    (b.length = 7 ∧ d = decodeCode c (memRead b c.cmdOffset)) := by
  subst h
  by_cases len : b.length = 7
  · by_cases sync : memRead b 0 ≠ 0xFF ∨ memRead b 1 ≠ 0x01
    · exact .inr (.inl ⟨len, sync, decode_of_badSync len sync⟩)
    · exact .inr (.inr ⟨len, by rw [decode, decodeBinary, if_neg (not_not.mpr len), if_neg sync]⟩)
  · exact .inl ⟨len, decode_of_length_ne len⟩

/-- A code byte raises no format error (40_decoder.md R83). -/
theorem decodeCode_ne_invalid (c : Cfg) (code : Byte) (e : Error) (info : ErrorInfo) :
    decodeCode c code ≠ .invalid e info := by
  intro h
  obtain ⟨i, -, ⟨⟩⟩ | ⟨i, -, -, ⟨⟩⟩ | ⟨-, -, ⟨⟩⟩ := decodeCode_cases h

/-- Settles O5: the length is checked first, and neither the sync check nor the code byte answers `FrameTooShort`. -/
theorem wrongLengthIsFrameTooShort : Obligations.WrongLengthIsFrameTooShort := by
  intro c b
  refine ⟨decode_of_length_ne, fun n short => ?_⟩
  obtain ⟨len, ⟨⟩⟩ | ⟨-, -, ⟨⟩⟩ | ⟨-, looked⟩ := decode_binary_cases short
  · exact ⟨len, rfl⟩
  · exact absurd looked.symm (decodeCode_ne_invalid _ _ _ _)

/-- Settles O6: the sync check comes before the code byte, which never answers `BadSyncBytes`. -/
theorem badSyncReported : Obligations.BadSyncReported := by
  intro c b0 b1 b2 b3 b4 b5 b6 x y
  refine ⟨fun sync => decode_of_badSync (b := [b0, b1, b2, b3, b4, b5, b6]) rfl sync, fun bad => ?_⟩
  obtain ⟨-, ⟨⟩⟩ | ⟨-, sync, ⟨⟩⟩ | ⟨-, looked⟩ := decode_binary_cases bad
  · exact ⟨sync, rfl, rfl⟩
  · exact absurd looked.symm (decodeCode_ne_invalid _ _ _ _)

/-! Text lines. -/

theorem isSpace_iff (b : Byte) : isSpace b = true ↔ b ∈ whitespaceBytes := by
  simp [isSpace, whitespaceBytes, or_assoc]

/-- The front whitespace is gone, and dropping from the back leaves the front byte (40_decoder.md R84). -/
theorem isSpace_of_head?_trim {t : List Byte} {b : Byte} (h : (trim t).head? = some b) : isSpace b = false := by
  have front : (t.dropWhile isSpace).head? = some b := by
    obtain ⟨rest, split⟩ := List.rdropWhile_prefix isSpace (l := t.dropWhile isSpace)
    rw [← split, ← trim_eq_rdropWhile, List.head?_append, h]
    rfl
  simpa [front] using List.head?_dropWhile_not isSpace t

theorem isSpace_of_getLast?_trim {t : List Byte} {b : Byte} (h : (trim t).getLast? = some b) :
    isSpace b = false := by
  rw [trim, List.getLast?_reverse] at h
  simpa [h] using List.head?_dropWhile_not isSpace (t.dropWhile isSpace).reverse

theorem trim_blank {t : List Byte} (h : t.all isSpace = true) : trim t = [] := by
  rw [← List.append_nil t, trim_append_left h]
  rfl

/-- Settles O8: a line is its trim with whitespace around it, and neither end of the trim is whitespace. -/
theorem trimRemovesLongestWhitespace : Obligations.TrimRemovesLongestWhitespace := by
  refine ⟨isSpace_iff, fun t => ?_⟩
  obtain ⟨p, q, line, before, after⟩ := lineHas_trim t
  exact ⟨p, q, RawFrame.text.inj line, before, after, fun _ => isSpace_of_head?_trim,
    fun _ => isSpace_of_getLast?_trim, trim_blank⟩

/-- A line decodes to an instruction or is `Unknown` with its trimmed token (40_decoder.md R85). -/
theorem decodeText_cases (t : List Byte) :
    (∃ i, decodeText t = .instr i) ∨ decodeText t = .unknown (.token (trim t)) := by
  unfold decodeText
  split
  · exact .inl ⟨_, rfl⟩
  · exact .inr rfl

/-- Settles O9: a line decodes to an instruction exactly where it is that instruction's padded token. -/
theorem otherTokensAreUnknown : Obligations.OtherTokensAreUnknown := by
  intro c t
  obtain ⟨i, decoded⟩ | unknown := decodeText_cases t
  · obtain ⟨src, line⟩ := (decodeText_eq_instr t i).mp decoded
    exact .inl ⟨i, src, line, decoded⟩
  · refine .inr ⟨fun i src line => ?_, unknown⟩
    have decoded := (decodeText_eq_instr t i).mpr ⟨src, line⟩
    rw [unknown] at decoded
    cases decoded

/-! The duplicate check: a motion command is its effect, which a duplicate leaves out, and its record. -/

/-- What a motion command does when it is applied (41_motion_commands.md R105 to R115), without the record; a query
and an `Unknown` are no motion. -/
def applyMotion (src : Format) (c : Command) (s : State) : State :=
  match c with
  | .stop => applyStop src s
  | .stopAzOnly => applyStopAzOnly src s
  | .stopElOnly => applyStopElOnly src s
  | .rotateAz d => applyRotate src c .az d s
  | .rotateEl d => applyRotate src c .el d s
  | .rotateBoth a e => applyRotateBoth src a e s
  | .queryAz | .queryEl | .queryBoth | .unknown _ => s

theorem exec_of_stop {i : Instr} (stop : i.command = .stop) (s : State) :
    exec i s = .next ((applyStop i.src s).setLastCmd .stop) := by
  rw [exec_eq, stop]
  rfl

/-- Every motion command but `Stop` goes through the duplicate check (40_decoder.md R88). -/
theorem exec_of_motion {i : Instr} (motion : i.command.recordable = true) (notStop : i.command ≠ .stop)
    (s : State) : exec i s = .next (acceptMotion i.command s (applyMotion i.src i.command s)) := by
  rw [exec_eq]
  generalize i.command = c at motion notStop
  cases c with
  | stop => exact absurd rfl notStop
  | stopAzOnly | stopElOnly | rotateAz d | rotateEl d | rotateBoth a e => rfl
  | queryAz | queryEl | queryBoth | unknown info => cases motion

theorem exec_of_duplicate {i : Instr} {s : State} (motion : i.command.recordable = true)
    (notStop : i.command ≠ .stop) (last : s.lastCmd = some i.command) : exec i s = .next s := by
  rw [exec_of_motion motion notStop, acceptMotion_duplicate _ last]

/-- A motion command that is no duplicate is applied and recorded (40_decoder.md R90). -/
theorem exec_of_fresh {i : Instr} {s : State} (motion : i.command.recordable = true)
    (fresh : s.lastCmd ≠ some i.command) :
    exec i s = .next ((applyMotion i.src i.command s).setLastCmd i.command) := by
  by_cases stop : i.command = .stop
  · rw [exec_of_stop stop, stop]
    rfl
  · rw [exec_of_motion motion stop, acceptMotion_applied _ fresh]

/-- A query adds its replies (42_query_commands.md R121 to R123) and writes nothing else. -/
theorem exec_of_query {i : Instr} (query : i.command ∈ [.queryAz, .queryEl, .queryBoth]) (s : State) :
    exec i s = .next { s with trace := s.trace ++ queryReplies i.command s } := by
  rw [exec_eq]
  generalize i.command = c at query
  simp only [List.mem_cons, List.not_mem_nil, or_false] at query
  obtain rfl | rfl | rfl := query
  · rfl
  · rfl
  · simp [replyEl, replyAz, emitResp, State.log, queryReplies, azLine, elLine]

/-- No instruction stands for an `Unknown`, so one that is no motion command is a query. -/
theorem exec_of_not_motion {i : Instr} (noMotion : i.command.recordable = false) (s : State) :
    exec i s = .next { s with trace := s.trace ++ queryReplies i.command s } := by
  refine exec_of_query ?_ s
  cases i <;> simp_all [Instr.command, Command.recordable]

/-- After a motion command, duplicate or not, `last_cmd` is that command (40_decoder.md R91). -/
theorem exec_lastCmd_of_motion {i : Instr} {s t : State} (motion : i.command.recordable = true)
    (run : exec i s = .next t) : t.lastCmd = some i.command := by
  by_cases duplicate : s.lastCmd = some i.command
  · by_cases stop : i.command = .stop
    · rw [exec_of_stop stop] at run
      cases run
      rw [stop]
      rfl
    · rw [exec_of_duplicate motion stop duplicate] at run
      cases run
      exact duplicate
  · rw [exec_of_fresh motion duplicate] at run
    cases run
    rfl

/-- Settles O22: a duplicate is suppressed, and the first of two equal commands makes the second a duplicate. -/
theorem repeatedCommandIsSuppressed : Obligations.RepeatedCommandIsSuppressed := by
  refine ⟨fun i s notStop last motion => exec_of_duplicate motion notStop last,
    fun i j s t motion notStop same run => ?_⟩
  have last := exec_lastCmd_of_motion motion run
  rw [← same] at motion notStop last
  exact exec_of_duplicate motion notStop last

theorem echo_stop (src : Format) (s : State) : echo src .stop s = { s with trace := s.trace ++ stopEcho src } := by
  cases src with
  | binary => simp [stopEcho]
  | text => rfl

/-- A stop of both axes and the indicator, as the record of the statement (41_motion_commands.md R105). -/
theorem applyStop_setLastCmd (src : Format) (s : State) :
    (applyStop src s).setLastCmd .stop = stopped s (stopEcho src) := by
  cases strategy : s.cfg.strategy with
  | hwPwm =>
    have elStrategy : (setIdle .az s).cfg.strategy = .hwPwm := by rw [setIdle_cfg, strategy]
    rw [applyStop, echo_stop, updateInd_eq, setIdle_el_hwPwm elStrategy, setIdle_az_hwPwm strategy]
    simp [stopped, strategy, indLevel, anyActive, State.setLastCmd]
  | busyWait =>
    have elStrategy : (setIdle .az s).cfg.strategy = .busyWait := by rw [setIdle_cfg, strategy]
    rw [applyStop, echo_stop, updateInd_eq, setIdle_el_busyWait elStrategy, setIdle_az_busyWait strategy]
    simp [stopped, strategy, indLevel, anyActive, State.setLastCmd]

/-- Settles O23: `Stop` has no duplicate check, a query and an `Unknown` frame record nothing, and a partial stop is
a motion command like a rotate. -/
theorem stopAndQueriesAreExempt : Obligations.StopAndQueriesAreExempt := by
  refine ⟨fun i s stop => ?_, fun i s query => exec_of_query query s, fun f info s unknown => ?_,
    fun i s partialStop last => ?_⟩
  · rw [exec_of_stop stop, applyStop_setLastCmd]
  · rw [acceptFrame, unknown]
    rfl
  · simp only [List.mem_cons, List.not_mem_nil, or_false] at partialStop
    obtain stop | stop := partialStop <;> exact exec_of_duplicate (by rw [stop]; rfl) (by simp [stop]) last

/-! What writes `last_cmd`. -/

theorem exec_lastCmd_of_not_motion {i : Instr} {s t : State} (noMotion : i.command.recordable = false)
    (run : exec i s = .next t) : t.lastCmd = s.lastCmd := by
  rw [exec_of_not_motion noMotion] at run
  cases run
  rfl

/-- Taking a frame leaves `last_cmd`, or the frame is a motion command, which it then holds. -/
theorem acceptFrame_lastCmd {f : RawFrame} {s t : State} (h : acceptFrame f s = .next t) :
    t.lastCmd = s.lastCmd ∨
    ∃ i, decode s.cfg f = .instr i ∧ i.command.recordable = true ∧ t.lastCmd = some i.command := by
  obtain ⟨i, decoded, run⟩ | ⟨info, -, rfl⟩ | ⟨e, info, -, rfl⟩ := acceptFrame_cases h
  · cases motion : i.command.recordable with
    | false => exact .inl (exec_lastCmd_of_not_motion motion run)
    | true => exact .inr ⟨i, decoded, motion, exec_lastCmd_of_motion motion run⟩
  · exact .inl (raiseError_lastCmd _ _ _)
  · exact .inl (raiseError_lastCmd _ _ _)

theorem runPoll_lastCmd {s t : State} (phase : s.phase = .poll) (h : runPoll s = .next t) :
    t.lastCmd = s.lastCmd ∨
    ∃ f i, takenFrame s = some f ∧ decode s.cfg f = .instr i ∧ i.command.recordable = true ∧
      t.lastCmd = some i.command := by
  obtain ⟨-, rfl⟩ | ⟨f, u, connected, offered, accepted, rfl⟩ := pollPhase_cases h
  · exact .inl rfl
  · obtain same | ⟨i, decoded, motion, recorded⟩ := acceptFrame_lastCmd accepted
    · exact .inl same
    · exact .inr ⟨f, i, takenFrame_eq_some phase connected offered, decoded, motion, recorded⟩

/-- Settles O24: of the phases only POLL writes `last_cmd`, and it takes the frame of a motion command then. -/
theorem lastCmdIsLastApplied : Obligations.LastCmdIsLastApplied := by
  refine ⟨fun i s t motion run => exec_lastCmd_of_motion motion run, fun s t noReset h changed => ?_⟩
  have before : (takeAsync s).lastCmd = s.lastCmd := by rw [takeAsync_noReset noReset]; rfl
  rw [← takenFrame_takeAsync noReset, ← takeAsync_cfg s]
  rw [← before] at changed
  obtain ⟨-, ⟨now, polled⟩ | ⟨-, rfl⟩ | ⟨-, rfl⟩ | ⟨-, rfl⟩⟩ := step_cases h
  · exact (runPoll_lastCmd now polled).resolve_left changed
  · exact absurd (pulsePhase_frame _).lastCmd changed
  · exact absurd (tickPhase_frame _).lastCmd changed
  · exact absurd rfl changed

/-! Suppression loses nothing: under the invariant each write of a command that `last_cmd` holds writes what is
there (40_decoder.md R92). -/

/-- The axes, the pins and the duties are the same. -/
structure SameOutputs (s t : State) : Prop where
  az : t.az = s.az
  el : t.el = s.el
  pin : t.pin = s.pin
  duty : t.duty = s.duty

theorem SameOutputs.trans {s t u : State} (first : SameOutputs s t) (second : SameOutputs t u) :
    SameOutputs s u :=
  ⟨second.az.trans first.az, second.el.trans first.el, second.pin.trans first.pin,
    second.duty.trans first.duty⟩

theorem SameOutputs.indOk {s t : State} (same : SameOutputs s t) (h : s.indOk) : t.indOk := by
  rw [State.indOk, indLevel, anyActive, same.az, same.el, same.pin]
  exact h

theorem eq_of_runs {a : AxisState} {d : Dir} (h : a.runs d = true) :
    { a with direction := d, enabled := true } = a := by
  cases a
  simp_all [AxisState.runs]

theorem eq_of_idle {a : AxisState} (h : a.enabled = false) : { a with enabled := false } = a := by
  rw [← h]

theorem dutyFor_of_runs {a : AxisState} {d : Dir} (h : a.runs d = true) (c : Cfg) : dutyFor c a = c.dutyOn := by
  simp_all [AxisState.runs, dutyFor]

theorem dutyFor_of_idle {a : AxisState} (h : a.enabled = false) (c : Cfg) : dutyFor c a = 0 := by
  simp [dutyFor, h]

theorem direction_of_runs {a : AxisState} {d : Dir} (h : a.runs d = true) : a.direction = d := by
  simp_all [AxisState.runs]

/-- A run command on an axis that runs in its direction writes the direction pin and the duty as they are. -/
theorem setRun_sameOutputs {s : State} (ax : Axis) {d : Dir} (h : AxesOk s)
    (runs : (s.axis ax).runs d = true) : SameOutputs s (setRun ax d s) := by
  obtain ⟨shown, -⟩ := h.duties
  obtain ⟨azPin, elPin⟩ := h.dirPins
  cases strategy : s.cfg.strategy with
  | hwPwm =>
    obtain ⟨azDuty, elDuty⟩ := shown strategy
    cases ax with
    | az =>
      rw [State.axis_az] at runs
      rw [direction_of_runs runs] at azPin
      rw [dutyFor_of_runs runs] at azDuty
      rw [setRun_az_hwPwm d strategy, ← azPin, ← azDuty]
      exact ⟨eq_of_runs runs, rfl, rfl, rfl⟩
    | el =>
      rw [State.axis_el] at runs
      rw [direction_of_runs runs] at elPin
      rw [dutyFor_of_runs runs] at elDuty
      rw [setRun_el_hwPwm d strategy, ← elPin, ← elDuty]
      exact ⟨rfl, eq_of_runs runs, rfl, rfl⟩
  | busyWait =>
    cases ax with
    | az =>
      rw [State.axis_az] at runs
      rw [direction_of_runs runs] at azPin
      rw [setRun_az_busyWait d strategy, ← azPin]
      exact ⟨eq_of_runs runs, rfl, rfl, rfl⟩
    | el =>
      rw [State.axis_el] at runs
      rw [direction_of_runs runs] at elPin
      rw [setRun_el_busyWait d strategy, ← elPin]
      exact ⟨rfl, eq_of_runs runs, rfl, rfl⟩

/-- A stop of an idle axis writes the duty, or the pulse pin, as it is. -/
theorem setIdle_sameOutputs {s : State} (ax : Axis) (h : AxesOk s) (idle : (s.axis ax).enabled = false) :
    SameOutputs s (setIdle ax s) := by
  obtain ⟨shown, -⟩ := h.duties
  cases strategy : s.cfg.strategy with
  | hwPwm =>
    obtain ⟨azDuty, elDuty⟩ := shown strategy
    cases ax with
    | az =>
      rw [setIdle_az_hwPwm strategy]
      exact ⟨eq_of_idle idle, rfl, rfl, by rw [← dutyFor_of_idle idle s.cfg, State.axis_az, ← azDuty]⟩
    | el =>
      rw [setIdle_el_hwPwm strategy]
      exact ⟨rfl, eq_of_idle idle, rfl, by rw [← dutyFor_of_idle idle s.cfg, State.axis_el, ← elDuty]⟩
  | busyWait =>
    obtain ⟨azPul, elPul⟩ := h.pulses strategy
    cases ax with
    | az =>
      rw [setIdle_az_busyWait strategy, ← azPul]
      exact ⟨eq_of_idle idle, rfl, rfl, rfl⟩
    | el =>
      rw [setIdle_el_busyWait strategy, ← elPul]
      exact ⟨rfl, eq_of_idle idle, rfl, rfl⟩

theorem updateInd_sameOutputs {s : State} (h : s.indOk) : SameOutputs s (updateInd s) := by
  rw [updateInd_eq, ← h]
  exact ⟨rfl, rfl, rfl, rfl⟩

theorem echo_sameOutputs (src : Format) (c : Command) (s : State) : SameOutputs s (echo src c s) := by
  constructor <;> simp

/-- A motion command ends with the indicator and the echo. -/
theorem echo_updateInd_sameOutputs {s u : State} (src : Format) (c : Command) (ind : s.indOk)
    (same : SameOutputs s u) : SameOutputs s (echo src c (updateInd u)) :=
  (same.trans (updateInd_sameOutputs (same.indOk ind))).trans (echo_sameOutputs src c _)

/-- A motion command that the axes show already changes no output. -/
theorem applyMotion_sameOutputs {s : State} (src : Format) {c : Command} (axes : AxesOk s) (ind : s.indOk)
    (shown : s.reflects c = true) : SameOutputs s (applyMotion src c s) := by
  cases c with
  | stop =>
    obtain ⟨azIdle, elIdle⟩ : s.az.enabled = false ∧ s.el.enabled = false := by
      simpa [State.reflects] using shown
    have first : SameOutputs s (setIdle .az s) := setIdle_sameOutputs .az axes azIdle
    have second := setIdle_sameOutputs .el (setIdle_axesOk .az axes) (by rw [State.axis_el, first.el, elIdle])
    exact echo_updateInd_sameOutputs src .stop ind (first.trans second)
  | stopAzOnly =>
    have azIdle : s.az.enabled = false := by simpa [State.reflects] using shown
    exact echo_updateInd_sameOutputs src .stopAzOnly ind (setIdle_sameOutputs .az axes azIdle)
  | stopElOnly =>
    have elIdle : s.el.enabled = false := by simpa [State.reflects] using shown
    exact echo_updateInd_sameOutputs src .stopElOnly ind (setIdle_sameOutputs .el axes elIdle)
  | rotateAz d => exact echo_updateInd_sameOutputs src _ ind (setRun_sameOutputs _ axes shown)
  | rotateEl d => exact echo_updateInd_sameOutputs src _ ind (setRun_sameOutputs _ axes shown)
  | rotateBoth a e =>
    obtain ⟨azRuns, elRuns⟩ : s.az.runs a = true ∧ s.el.runs e = true := by simpa [State.reflects] using shown
    have first : SameOutputs s (setRun .az a s) := setRun_sameOutputs .az axes azRuns
    have second := setRun_sameOutputs .el (setRun_axesOk .az a axes) (by rw [State.axis_el, first.el, elRuns])
    exact echo_updateInd_sameOutputs src _ ind (first.trans second)
  | queryAz | queryEl | queryBoth | unknown info => cases shown

/-- What the axes can show is a motion command (10_state.md R18). -/
theorem recordable_of_reflects {s : State} {c : Command} (h : s.reflects c = true) : c.recordable = true := by
  cases c with
  | stop | stopAzOnly | stopElOnly | rotateAz d | rotateEl d | rotateBoth a e => rfl
  | queryAz | queryEl | queryBoth | unknown info => cases h

/-- Settles O25: under the invariant the axes show the command in `last_cmd`, and emptying that register leaves what
the command reads and writes. -/
theorem deduplicationChangesNoAxis : Obligations.DeduplicationChangesNoAxis := by
  intro i s h last
  obtain ⟨axes, ind, shown⟩ := (inv_iff s).mp h
  rw [State.lastCmdOk, last] at shown
  have emptied : AxesOk { s with lastCmd := none } := { axes with }
  have same := applyMotion_sameOutputs i.src emptied ind shown
  exact ⟨_, exec_of_fresh (recordable_of_reflects shown) (by simp), same.az, same.el, same.pin, same.duty⟩

/-! The input that a step takes. -/

theorem acceptFrame_polls {f : RawFrame} {s t : State} (h : acceptFrame f s = .next t) : t.polls = s.polls := by
  obtain ⟨i, -, run⟩ | ⟨info, -, rfl⟩ | ⟨e, info, -, rfl⟩ := acceptFrame_cases h
  · exact (exec_sameFrame run).polls
  · exact raiseError_polls _ _ _
  · exact raiseError_polls _ _ _

theorem runPoll_polls {s t : State} (h : runPoll s = .next t) : t.polls = s.polls.tail := by
  obtain ⟨-, rfl⟩ | ⟨f, u, -, -, accepted, rfl⟩ := pollPhase_cases h
  · rfl
  · exact acceptFrame_polls accepted

/-- Settles O49: the POLL phase uses up the first input, and no other phase writes the inputs. -/
theorem oneSamplePerPoll : Obligations.OneSamplePerPoll := by
  intro s t noReset h
  have phase : (takeAsync s).phase = s.phase := by rw [takeAsync_noReset noReset]; rfl
  rw [← phase, ← takeAsync_polls s]
  obtain ⟨-, ⟨now, polled⟩ | ⟨now, rfl⟩ | ⟨now, rfl⟩ | ⟨now, rfl⟩⟩ := step_cases h
  · rw [if_pos now, runPoll_polls polled]
  · rw [if_neg (by simp [now]), (pulsePhase_frame _).polls]
  · rw [if_neg (by simp [now]), (tickPhase_frame _).polls]
  · rw [if_neg (by simp [now])]
    rfl

end Sys2Proof.Proofs.Decoder
end

section
/-! The statements that rest on 41_motion_commands.md: what each motion command writes (R105 to R115), the state
machine of an axis (R116, R117) and that the axes are independent (R119). -/

namespace Sys2Proof.Proofs.Motion

open Sys2Proof.Machine Sys2Proof.Claims Sys2Proof.Proofs.Registers Sys2Proof.Proofs.Memory
  Sys2Proof.Proofs.Encoding Sys2Proof.Proofs.Decoder

/-! Which frames decode to a row, under every legal configuration: the two query codes are unmapped, so they take
no frame from a motion command. -/

/-- A code byte names a binary row exactly by the binary map. -/
theorem decodeCode_eq_binary {c : Cfg} (legal : c.legal = true) {i : Instr} (src : i.src = .binary)
    (code : Byte) : decodeCode c code = .instr i ↔ i.opcode = [code] := by
  constructor
  · intro h
    obtain ⟨j, query, ⟨⟩⟩ | ⟨j, -, row, ⟨⟩⟩ | ⟨-, -, ⟨⟩⟩ := decodeCode_cases h
    · obtain rfl | rfl := queryCode_eq_some query <;> cases src
    · exact ((codeTable_lookup code i).mp row).2
  · intro row
    exact decodeCode_of_lookup (queryOk_of_legal legal) ((codeTable_lookup code i).mpr ⟨src, row⟩)

theorem decode_eq_binary {c : Cfg} (legal : c.legal = true) {i : Instr} {code : Byte} (src : i.src = .binary)
    (row : i.opcode = [code]) (f : RawFrame) : decode c f = .instr i ↔ FrameHas c code f := by
  constructor
  · intro decoded
    cases f with
    | binary b =>
      obtain ⟨read, carried⟩ | ⟨e, info, invalid⟩ := frameHas_or_invalid (offsetOk_of_legal legal) b
      · rw [decode_frameHas carried, decodeCode_eq_binary legal src, row] at decoded
        cases decoded
        exact carried
      · rw [invalid c] at decoded
        cases decoded
    | text t =>
      obtain ⟨text, -⟩ := (decodeText_eq_instr t i).mp decoded
      rw [src] at text
      cases text
  · intro carried
    rw [decode_frameHas carried, decodeCode_eq_binary legal src, row]

/-- A binary frame decodes to a text row only where it asks a query (30_encoding.md R68). -/
theorem eq_query_of_decode_binary {c : Cfg} {b : List Byte} {i : Instr} (src : i.src = .text)
    (h : decode c (.binary b) = .instr i) : i = .tC ∨ i = .tB := by
  obtain ⟨-, ⟨⟩⟩ | ⟨-, -, ⟨⟩⟩ | ⟨-, looked⟩ := decode_binary_cases h
  obtain ⟨j, query, ⟨⟩⟩ | ⟨j, -, row, ⟨⟩⟩ | ⟨-, -, ⟨⟩⟩ := decodeCode_cases looked.symm
  · exact queryCode_eq_some query
  · obtain ⟨binary, -⟩ := (codeTable_lookup _ i).mp row
    rw [src] at binary
    cases binary

theorem decode_eq_text {i : Instr} (src : i.src = .text) (motion : i.command.recordable = true) (c : Cfg)
    (f : RawFrame) : decode c f = .instr i ↔ LineHas i.opcode f := by
  cases f with
  | binary b =>
    constructor
    · intro decoded
      obtain rfl | rfl := eq_query_of_decode_binary src decoded <;> cases motion
    · rintro ⟨p, q, ⟨⟩, -⟩
  | text t => exact (decodeText_eq_instr t i).trans (and_iff_right src)

/-! The echo and each command's effect as the record of its statement, under both strategies. -/

/-- What `Echo(src, c)` appends to the trace (41_motion_commands.md R104). -/
def echoEvents (src : Format) (c : Command) : List Event :=
  match src with
  | .binary => []
  | .text => ((codeOf c).map fun n => Event.resp (echoLine n)).toList

theorem echo_eq (src : Format) (c : Command) (s : State) :
    echo src c s = { s with trace := s.trace ++ echoEvents src c } := by
  cases src with
  | binary => simp [echoEvents]
  | text => cases code : codeOf c <;> simp [echo, echoEvents, code, emitResp, State.log]

theorem applyStopAzOnly_setLastCmd (src : Format) (s : State) :
    (applyStopAzOnly src s).setLastCmd .stopAzOnly = stoppedAz s (echoEvents src .stopAzOnly) := by
  cases strategy : s.cfg.strategy with
  | hwPwm =>
    rw [applyStopAzOnly, echo_eq, updateInd_eq, setIdle_az_hwPwm strategy]
    simp [stoppedAz, strategy, indLevel, anyActive, State.setLastCmd]
  | busyWait =>
    rw [applyStopAzOnly, echo_eq, updateInd_eq, setIdle_az_busyWait strategy]
    simp [stoppedAz, strategy, indLevel, anyActive, State.setLastCmd]

theorem applyStopElOnly_setLastCmd (src : Format) (s : State) :
    (applyStopElOnly src s).setLastCmd .stopElOnly = stoppedEl s (echoEvents src .stopElOnly) := by
  cases strategy : s.cfg.strategy with
  | hwPwm =>
    rw [applyStopElOnly, echo_eq, updateInd_eq, setIdle_el_hwPwm strategy]
    simp [stoppedEl, strategy, indLevel, anyActive, State.setLastCmd]
  | busyWait =>
    rw [applyStopElOnly, echo_eq, updateInd_eq, setIdle_el_busyWait strategy]
    simp [stoppedEl, strategy, indLevel, anyActive, State.setLastCmd]

theorem applyRotate_az_setLastCmd (src : Format) (d : Dir) (s : State) :
    (applyRotate src (.rotateAz d) .az d s).setLastCmd (.rotateAz d) =
      ranAz s d (dirLevel d) (echoEvents src (.rotateAz d)) := by
  cases strategy : s.cfg.strategy with
  | hwPwm =>
    rw [applyRotate, echo_eq, updateInd_eq, setRun_az_hwPwm d strategy]
    simp [ranAz, strategy, indLevel, anyActive, State.setLastCmd, on, Cfg.dutyOn]
  | busyWait =>
    rw [applyRotate, echo_eq, updateInd_eq, setRun_az_busyWait d strategy]
    simp [ranAz, strategy, indLevel, anyActive, State.setLastCmd]

theorem applyRotate_el_setLastCmd (src : Format) (d : Dir) (s : State) :
    (applyRotate src (.rotateEl d) .el d s).setLastCmd (.rotateEl d) =
      ranEl s d (dirLevel d) (echoEvents src (.rotateEl d)) := by
  cases strategy : s.cfg.strategy with
  | hwPwm =>
    rw [applyRotate, echo_eq, updateInd_eq, setRun_el_hwPwm d strategy]
    simp [ranEl, strategy, indLevel, anyActive, State.setLastCmd, on, Cfg.dutyOn]
  | busyWait =>
    rw [applyRotate, echo_eq, updateInd_eq, setRun_el_busyWait d strategy]
    simp [ranEl, strategy, indLevel, anyActive, State.setLastCmd]

/-- The two-axis rotates have binary codes only, so no echo (41_motion_commands.md R112 to R115). -/
theorem applyRotateBoth_setLastCmd (a e : Dir) (s : State) :
    (applyRotateBoth .binary a e s).setLastCmd (.rotateBoth a e) = ranBoth s a e (dirLevel a) (dirLevel e) := by
  cases strategy : s.cfg.strategy with
  | hwPwm =>
    have elStrategy : (setRun .az a s).cfg.strategy = .hwPwm := by rw [setRun_cfg, strategy]
    rw [applyRotateBoth, echo_binary, updateInd_eq, setRun_el_hwPwm e elStrategy, setRun_az_hwPwm a strategy]
    simp [ranBoth, strategy, indLevel, anyActive, State.setLastCmd, on, Cfg.dutyOn]
  | busyWait =>
    have elStrategy : (setRun .az a s).cfg.strategy = .busyWait := by rw [setRun_cfg, strategy]
    rw [applyRotateBoth, echo_binary, updateInd_eq, setRun_el_busyWait e elStrategy,
      setRun_az_busyWait a strategy]
    simp [ranBoth, strategy, indLevel, anyActive, State.setLastCmd]

/-! An instruction that is no duplicate, as the record of its command's statement. -/

section
variable {i : Instr} {s : State}

theorem exec_stopAzOnly (cmd : i.command = .stopAzOnly) (fresh : s.lastCmd ≠ some .stopAzOnly) :
    exec i s = .next (stoppedAz s (echoEvents i.src .stopAzOnly)) := by
  rw [← applyStopAzOnly_setLastCmd, exec_of_fresh (by rw [cmd]; rfl) (by rwa [cmd]), cmd]
  rfl

theorem exec_stopElOnly (cmd : i.command = .stopElOnly) (fresh : s.lastCmd ≠ some .stopElOnly) :
    exec i s = .next (stoppedEl s (echoEvents i.src .stopElOnly)) := by
  rw [← applyStopElOnly_setLastCmd, exec_of_fresh (by rw [cmd]; rfl) (by rwa [cmd]), cmd]
  rfl

theorem exec_rotateAz {d : Dir} (cmd : i.command = .rotateAz d) (fresh : s.lastCmd ≠ some (.rotateAz d)) :
    exec i s = .next (ranAz s d (dirLevel d) (echoEvents i.src (.rotateAz d))) := by
  rw [← applyRotate_az_setLastCmd, exec_of_fresh (by rw [cmd]; rfl) (by rwa [cmd]), cmd]
  rfl

theorem exec_rotateEl {d : Dir} (cmd : i.command = .rotateEl d) (fresh : s.lastCmd ≠ some (.rotateEl d)) :
    exec i s = .next (ranEl s d (dirLevel d) (echoEvents i.src (.rotateEl d))) := by
  rw [← applyRotate_el_setLastCmd, exec_of_fresh (by rw [cmd]; rfl) (by rwa [cmd]), cmd]
  rfl

theorem exec_rotateBoth {a e : Dir} (cmd : i.command = .rotateBoth a e) (src : i.src = .binary)
    (fresh : s.lastCmd ≠ some (.rotateBoth a e)) :
    exec i s = .next (ranBoth s a e (dirLevel a) (dirLevel e)) := by
  rw [← applyRotateBoth_setLastCmd, exec_of_fresh (by rw [cmd]; rfl) (by rwa [cmd]), cmd, src]
  rfl

end

/-! The TICK phase moves the angle of an enabled axis and nothing else of an axis. -/

theorem tickPhase_axis_cases (s : State) (ax : Axis) :
    (tickPhase s).axis ax = s.axis ax ∨
    (s.axis ax).enabled = true ∧ ∃ a, (tickPhase s).axis ax = { s.axis ax with angle := a } := by
  simp only [tickPhase, angleUpdateAz, angleUpdateEl]
  cases ax <;> split_ifs <;> simp_all

theorem tickPhase_axis_of_idle {s : State} {ax : Axis} (idle : (s.axis ax).enabled = false) :
    (tickPhase s).axis ax = s.axis ax := by
  obtain same | ⟨running, -⟩ := tickPhase_axis_cases s ax
  · exact same
  · rw [idle] at running
    cases running

theorem stopped_axis (s : State) (reply : List Event) (ax : Axis) :
    (stopped s reply).axis ax = { s.axis ax with enabled := false } := by
  cases ax <;> cases strategy : s.cfg.strategy <;> simp [stopped, strategy]

/-- After a `Stop` a TICK phase changes no angle (41_motion_commands.md R105). -/
theorem tickPhase_stopped_angle (s : State) (reply : List Event) (ax : Axis) :
    ((tickPhase (stopped s reply)).axis ax).angle = (s.axis ax).angle := by
  rw [tickPhase_axis_of_idle (by rw [stopped_axis]), stopped_axis]

/-! The motion commands. -/

/-- Settles O11: `Stop` has no duplicate check, and leaves no axis for TICK to move. -/
theorem stopForcesBothIdle : Obligations.StopForcesBothIdle := by
  obtain ⟨exec_eq_stopped, -⟩ := stopAndQueriesAreExempt
  exact ⟨fun c f legal => ⟨decode_eq_binary legal rfl rfl f, decode_eq_binary legal rfl rfl f,
      decode_eq_text rfl rfl c f⟩,
    fun s => ⟨exec_eq_stopped .stop s rfl, exec_eq_stopped .stop1 s rfl, exec_eq_stopped .tS s rfl,
      tickPhase_stopped_angle s [] .az, tickPhase_stopped_angle s [] .el⟩⟩

/-- Settles O12: the token only, and a motion command under the duplicate check. -/
theorem stopAzOnlyStopsAzimuth : Obligations.StopAzOnlyStopsAzimuth :=
  ⟨fun c f _ => decode_eq_text rfl rfl c f,
    fun _ => ⟨exec_stopAzOnly rfl, exec_of_duplicate (i := .tA) rfl (by decide)⟩⟩

/-- Settles O13: the token only, and a motion command under the duplicate check. -/
theorem stopElOnlyStopsElevation : Obligations.StopElOnlyStopsElevation :=
  ⟨fun c f _ => decode_eq_text rfl rfl c f,
    fun _ => ⟨exec_stopElOnly rfl, exec_of_duplicate (i := .tE) rfl (by decide)⟩⟩

/-- A binary row and a text row of one command that is subject to the duplicate check. -/
structure RowPair (b t : Instr) (code : Byte) (cmd : Command) : Prop where
  binarySrc : b.src = .binary
  binaryRow : b.opcode = [code]
  binaryCommand : b.command = cmd
  textSrc : t.src = .text
  textCommand : t.command = cmd
  motion : cmd.recordable = true
  notStop : cmd ≠ .stop

/-- The two rows of a command: the code and the token decode to them, both have the command's effect `ran`, the
text row alone echoes, and as duplicates both do nothing. -/
theorem RowPair.runs {b t : Instr} {code : Byte} {cmd : Command} (pair : RowPair b t code cmd)
    {ran : State → List Event → State}
    (effect : ∀ {i s}, i.command = cmd → s.lastCmd ≠ some cmd →
      exec i s = .next (ran s (echoEvents i.src cmd))) :
    (∀ (c : Cfg) (f : RawFrame), c.legal = true →
      (decode c f = .instr b ↔ FrameHas c code f) ∧ (decode c f = .instr t ↔ LineHas t.opcode f)) ∧
    ∀ s : State,
      (s.lastCmd ≠ some cmd →
        exec b s = .next (ran s (echoEvents .binary cmd)) ∧ exec t s = .next (ran s (echoEvents .text cmd))) ∧
      (s.lastCmd = some cmd → exec b s = .next s ∧ exec t s = .next s) := by
  obtain ⟨binarySrc, binaryRow, rfl, textSrc, sameCommand, motion, notStop⟩ := pair
  have textMotion : t.command.recordable = true := by rw [sameCommand, motion]
  refine ⟨fun c f legal => ⟨decode_eq_binary legal binarySrc binaryRow f, decode_eq_text textSrc textMotion c f⟩,
    fun s => ⟨fun fresh => ⟨?_, ?_⟩, fun last => ⟨exec_of_duplicate motion notStop last, ?_⟩⟩⟩
  · rw [effect rfl fresh, binarySrc]
  · rw [effect sameCommand fresh, textSrc]
  · rw [← sameCommand] at notStop last
    exact exec_of_duplicate textMotion notStop last

/-- Settles O14: code 02 and token R, with the echo of code 02. -/
theorem rotateAzForwardRuns : Obligations.RotateAzForwardRuns :=
  RowPair.runs (b := .azf) (t := .tR) ⟨rfl, rfl, rfl, rfl, rfl, rfl, by decide⟩ exec_rotateAz

/-- Settles O15: code 04 and token L, with the echo of code 04. -/
theorem rotateAzBackwardRuns : Obligations.RotateAzBackwardRuns :=
  RowPair.runs (b := .azb) (t := .tL) ⟨rfl, rfl, rfl, rfl, rfl, rfl, by decide⟩ exec_rotateAz

/-- Settles O16: code 08 and token U, with the echo of code 08. -/
theorem rotateElForwardRuns : Obligations.RotateElForwardRuns :=
  RowPair.runs (b := .elf) (t := .tU) ⟨rfl, rfl, rfl, rfl, rfl, rfl, by decide⟩ exec_rotateEl

/-- Settles O17: code 10 and token D, with the echo of code 10. -/
theorem rotateElBackwardRuns : Obligations.RotateElBackwardRuns :=
  RowPair.runs (b := .elb) (t := .tD) ⟨rfl, rfl, rfl, rfl, rfl, rfl, by decide⟩ exec_rotateEl

/-- A row of the two-axis rotates agrees with the binary map and with the levels of the direction pins. -/
theorem row_of_mem_bothRows {i : Instr} {a e : Dir} {v w : Level} {code : Byte}
    (listed : (i, a, e, v, w, code) ∈ bothRows) :
    i.src = .binary ∧ i.opcode = [code] ∧ i.command = .rotateBoth a e ∧ v = dirLevel a ∧ w = dirLevel e := by
  have rows : ∀ r ∈ bothRows, r.1.src = .binary ∧ r.1.opcode = [r.2.2.2.2.2] ∧
      r.1.command = .rotateBoth r.2.1 r.2.2.1 ∧ r.2.2.2.1 = dirLevel r.2.1 ∧
      r.2.2.2.2.1 = dirLevel r.2.2.1 := by decide
  exact rows _ listed

/-- Settles O18: the four rows are one command with its two directions. -/
theorem rotateBothRuns : Obligations.RotateBothRuns := by
  intro i a e v w code listed
  obtain ⟨src, row, cmd, rfl, rfl⟩ := row_of_mem_bothRows listed
  refine ⟨fun c f legal => decode_eq_binary legal src row f, fun s => ⟨exec_rotateBoth cmd src, fun last => ?_⟩⟩
  exact exec_of_duplicate (by rw [cmd]; rfl) (by simp [cmd]) (by rw [cmd, last])

/-! The state machine of one axis: what a command makes of the axis's registers. -/

/-- An instruction applies and records its command, or is a duplicate, or is a query. -/
theorem exec_cases {i : Instr} {s t : State} (run : exec i s = .next t) :
    t = (applyMotion i.src i.command s).setLastCmd i.command ∨
    (s.lastCmd = some i.command ∧ t = s) ∨
    (i.command.recordable = false ∧ t = { s with trace := s.trace ++ queryReplies i.command s }) := by
  cases motion : i.command.recordable with
  | false =>
    rw [exec_of_not_motion motion] at run
    cases run
    exact .inr (.inr ⟨rfl, rfl⟩)
  | true =>
    by_cases last : s.lastCmd = some i.command
    · by_cases stop : i.command = .stop
      · rw [exec_of_stop stop] at run
        cases run
        rw [stop]
        exact .inl rfl
      · rw [exec_of_duplicate motion stop last] at run
        cases run
        exact .inr (.inl ⟨last, rfl⟩)
    · rw [exec_of_fresh motion last] at run
      cases run
      exact .inl rfl

/-- An axis's registers after a command is applied (41_motion_commands.md R101, R102, R105 to R115). -/
def axisAfter (c : Command) (ax : Axis) (a : AxisState) : AxisState :=
  match c, ax with
  | .stop, _ | .stopAzOnly, .az | .stopElOnly, .el => { a with enabled := false }
  | .rotateAz d, .az | .rotateEl d, .el | .rotateBoth d _, .az | .rotateBoth _ d, .el =>
    { a with direction := d, enabled := true }
  | .stopAzOnly, .el | .stopElOnly, .az | .rotateAz _, .el | .rotateEl _, .az => a
  | .queryAz, _ | .queryEl, _ | .queryBoth, _ | .unknown _, _ => a

theorem applyMotion_axis (src : Format) (c : Command) (s : State) (ax : Axis) :
    (applyMotion src c s).axis ax = axisAfter c ax (s.axis ax) := by
  cases c <;> cases ax <;>
    simp [applyMotion, axisAfter, applyStop, applyStopAzOnly, applyStopElOnly, applyRotate, applyRotateBoth]

theorem axisAfter_of_not_motion {c : Command} (noMotion : c.recordable = false) (ax : Axis) (a : AxisState) :
    axisAfter c ax a = a := by
  cases c with
  | queryAz | queryEl | queryBoth | unknown info => rfl
  | stop | stopAzOnly | stopElOnly | rotateAz d | rotateEl d | rotateBoth a e => cases noMotion

theorem axisAfter_mode (c : Command) (ax : Axis) (a : AxisState) :
    (axisAfter c ax a).mode = modeAfter c ax a.mode := by
  cases c <;> cases ax <;> rfl

theorem axisAfter_of_not_named {c : Command} {ax : Axis} (unnamed : namesAxis c ax = false) (a : AxisState) :
    axisAfter c ax a = a := by
  cases c with
  | stop | rotateBoth a e => cases unnamed
  | stopAzOnly | rotateAz d =>
    cases ax with
    | az => cases unnamed
    | el => rfl
  | stopElOnly | rotateEl d =>
    cases ax with
    | az => rfl
    | el => cases unnamed
  | queryAz | queryEl | queryBoth | unknown info => rfl

/-- A command that does not stop an axis leaves it running. -/
theorem axisAfter_enabled {c : Command} {ax : Axis} (noStop : stopsAxis c ax = false) {a : AxisState}
    (running : a.enabled = true) : (axisAfter c ax a).enabled = true := by
  cases c with
  | stop => cases noStop
  | stopAzOnly =>
    cases ax with
    | az => cases noStop
    | el => exact running
  | stopElOnly =>
    cases ax with
    | az => exact running
    | el => cases noStop
  | rotateAz d =>
    cases ax with
    | az => rfl
    | el => exact running
  | rotateEl d =>
    cases ax with
    | az => exact running
    | el => rfl
  | rotateBoth a e => cases ax <;> rfl
  | queryAz | queryEl | queryBoth | unknown info => exact running

theorem exec_axis_cases {i : Instr} {s t : State} (run : exec i s = .next t) (ax : Axis) :
    t.axis ax = axisAfter i.command ax (s.axis ax) ∨ (s.lastCmd = some i.command ∧ t = s) := by
  obtain rfl | duplicate | ⟨noMotion, rfl⟩ := exec_cases run
  · rw [State.setLastCmd_axis, applyMotion_axis]
    exact .inl rfl
  · exact .inr duplicate
  · rw [axisAfter_of_not_motion noMotion]
    exact .inl (by cases ax <;> rfl)

/-- Under the invariant a duplicate finds the axes as its command leaves them (40_decoder.md R92). -/
theorem exec_axis {i : Instr} {s t : State} (h : s.Inv) (run : exec i s = .next t) (ax : Axis) :
    t.axis ax = axisAfter i.command ax (s.axis ax) := by
  obtain applied | ⟨last, rfl⟩ := exec_axis_cases run ax
  · exact applied
  · obtain ⟨axes, ind, shown⟩ := (inv_iff t).mp h
    rw [State.lastCmdOk, last] at shown
    have same := applyMotion_sameOutputs i.src axes ind shown
    rw [← applyMotion_axis i.src]
    cases ax
    case az => exact same.az.symm
    case el => exact same.el.symm

/-- Settles O27: under the invariant the table holds for a duplicate as well. -/
theorem axisTransitionTable : Obligations.AxisTransitionTable := by
  intro i s t h run ax
  rw [exec_axis h run, axisAfter_mode]

/-! What a step does to one axis: it may move the angle, and it may run the instruction of the frame it takes. -/

theorem acceptFrame_axis {f : RawFrame} {s t : State} (h : acceptFrame f s = .next t) (ax : Axis) :
    t.axis ax = s.axis ax ∨
    ∃ i, decode s.cfg f = .instr i ∧ t.axis ax = axisAfter i.command ax (s.axis ax) := by
  obtain ⟨i, decoded, run⟩ | ⟨info, -, rfl⟩ | ⟨e, info, -, rfl⟩ := acceptFrame_cases h
  · obtain applied | ⟨-, rfl⟩ := exec_axis_cases run ax
    · exact .inr ⟨i, decoded, applied⟩
    · exact .inl rfl
  · exact .inl (by cases ax <;> simp)
  · exact .inl (by cases ax <;> simp)

theorem runPoll_axis {s t : State} (phase : s.phase = .poll) (h : runPoll s = .next t) (ax : Axis) :
    t.axis ax = s.axis ax ∨
    ∃ f i, takenFrame s = some f ∧ decode s.cfg f = .instr i ∧
      t.axis ax = axisAfter i.command ax (s.axis ax) := by
  obtain ⟨-, rfl⟩ | ⟨f, u, connected, offered, accepted, rfl⟩ := pollPhase_cases h
  · exact .inl (by simp)
  · have taken := takenFrame_eq_some phase connected offered
    simpa [taken] using acceptFrame_axis accepted ax

theorem pulsePhase_axis (s : State) (ax : Axis) : (pulsePhase s).axis ax = s.axis ax := by
  cases ax
  case az => exact (pulsePhase_frame s).az
  case el => exact (pulsePhase_frame s).el

/-- A step without a reset leaves an axis but for its angle, or takes a frame and applies its command
(41_motion_commands.md R116, R117). -/
theorem step_axis {s t : State} (noReset : s.noResetNow) (h : step s = .next t) (ax : Axis) :
    (∃ a, t.axis ax = { s.axis ax with angle := a }) ∨
    ∃ f i, takenFrame s = some f ∧ decode s.cfg f = .instr i ∧
      t.axis ax = axisAfter i.command ax (s.axis ax) := by
  have before : (takeAsync s).axis ax = s.axis ax := by rw [takeAsync_noReset noReset]; simp
  rw [← takenFrame_takeAsync noReset, ← takeAsync_cfg s, ← before]
  obtain ⟨-, ⟨now, polled⟩ | ⟨-, rfl⟩ | ⟨-, rfl⟩ | ⟨-, rfl⟩⟩ := step_cases h
  · exact (runPoll_axis now polled ax).imp_left fun same => ⟨_, same⟩
  · exact .inl ⟨_, pulsePhase_axis _ ax⟩
  · obtain same | ⟨-, moved⟩ := tickPhase_axis_cases (takeAsync s) ax
    · exact .inl ⟨_, same⟩
    · exact .inl moved
  · exact .inl ⟨_, State.setPhase_axis _ _ ax⟩

/-- Settles O28: a command that does not stop the axis leaves it enabled, and TICK writes its angle only. -/
theorem onlyStopDisablesAnAxis : Obligations.OnlyStopDisablesAnAxis := by
  intro s t ax noReset h running disabled
  obtain ⟨a, moved⟩ | ⟨f, i, taken, decoded, applied⟩ := step_axis noReset h ax
  · rw [moved, running] at disabled
    cases disabled
  · refine ⟨f, i, taken, decoded, ?_⟩
    by_contra noStop
    rw [applied, axisAfter_enabled (Bool.eq_false_iff.mpr noStop) running] at disabled
    cases disabled

/-- Settles O29: a command that does not name the axis leaves it, and the mode does not read the angle. -/
theorem onlyNamingCommandsChangeMode : Obligations.OnlyNamingCommandsChangeMode := by
  intro s t ax noReset h changed
  obtain ⟨a, moved⟩ | ⟨f, i, taken, decoded, applied⟩ := step_axis noReset h ax
  · rw [moved] at changed
    exact absurd rfl changed
  · refine ⟨f, i, taken, decoded, ?_⟩
    by_contra unnamed
    rw [applied, axisAfter_of_not_named (Bool.eq_false_iff.mpr unnamed)] at changed
    exact changed rfl

/-! The axes are independent: the operations on one axis leave the registers, duty and pins of the other. -/

/-- Everything that belongs to one axis is the same. -/
structure SameAxis (ax : Axis) (s t : State) : Prop where
  axis : t.axis ax = s.axis ax
  duty : t.dutyOf ax = s.dutyOf ax
  dirPin : t.pinOf (dirPin ax) = s.pinOf (dirPin ax)
  pulPin : t.pinOf (pulPin ax) = s.pinOf (pulPin ax)

theorem SameAxis.refl (ax : Axis) (s : State) : SameAxis ax s s := ⟨rfl, rfl, rfl, rfl⟩

theorem SameAxis.trans {ax : Axis} {s t u : State} (first : SameAxis ax s t) (second : SameAxis ax t u) :
    SameAxis ax s u :=
  ⟨second.axis.trans first.axis, second.duty.trans first.duty, second.dirPin.trans first.dirPin,
    second.pulPin.trans first.pulPin⟩

theorem setRun_az_sameAxis_el (d : Dir) (s : State) : SameAxis .el s (setRun .az d s) := by
  cases strategy : s.cfg.strategy
  case hwPwm => rw [setRun_az_hwPwm d strategy]; exact ⟨rfl, rfl, rfl, rfl⟩
  case busyWait => rw [setRun_az_busyWait d strategy]; exact ⟨rfl, rfl, rfl, rfl⟩

theorem setRun_el_sameAxis_az (d : Dir) (s : State) : SameAxis .az s (setRun .el d s) := by
  cases strategy : s.cfg.strategy
  case hwPwm => rw [setRun_el_hwPwm d strategy]; exact ⟨rfl, rfl, rfl, rfl⟩
  case busyWait => rw [setRun_el_busyWait d strategy]; exact ⟨rfl, rfl, rfl, rfl⟩

theorem setIdle_az_sameAxis_el (s : State) : SameAxis .el s (setIdle .az s) := by
  cases strategy : s.cfg.strategy
  case hwPwm => rw [setIdle_az_hwPwm strategy]; exact ⟨rfl, rfl, rfl, rfl⟩
  case busyWait => rw [setIdle_az_busyWait strategy]; exact ⟨rfl, rfl, rfl, rfl⟩

theorem setIdle_el_sameAxis_az (s : State) : SameAxis .az s (setIdle .el s) := by
  cases strategy : s.cfg.strategy
  case hwPwm => rw [setIdle_el_hwPwm strategy]; exact ⟨rfl, rfl, rfl, rfl⟩
  case busyWait => rw [setIdle_el_busyWait strategy]; exact ⟨rfl, rfl, rfl, rfl⟩

/-- The indicator, the echo and `last_cmd` belong to neither axis. -/
theorem echo_updateInd_sameAxis {ax : Axis} {s u : State} (src : Format) (c : Command) (same : SameAxis ax s u) :
    SameAxis ax s (echo src c (updateInd u)) := by
  refine same.trans ?_
  rw [echo_eq, updateInd_eq]
  cases ax
  all_goals exact ⟨rfl, rfl, rfl, rfl⟩

theorem applyMotion_sameAxis (src : Format) {c : Command} {ax : Axis} (unnamed : namesAxis c ax = false)
    (s : State) : SameAxis ax s (applyMotion src c s) := by
  cases c with
  | stop | rotateBoth a e => cases unnamed
  | stopAzOnly =>
    cases ax with
    | az => cases unnamed
    | el => exact echo_updateInd_sameAxis src .stopAzOnly (setIdle_az_sameAxis_el s)
  | stopElOnly =>
    cases ax with
    | az => exact echo_updateInd_sameAxis src .stopElOnly (setIdle_el_sameAxis_az s)
    | el => cases unnamed
  | rotateAz d =>
    cases ax with
    | az => cases unnamed
    | el => exact echo_updateInd_sameAxis src (.rotateAz d) (setRun_az_sameAxis_el d s)
  | rotateEl d =>
    cases ax with
    | az => exact echo_updateInd_sameAxis src (.rotateEl d) (setRun_el_sameAxis_az d s)
    | el => cases unnamed
  | queryAz | queryEl | queryBoth | unknown info => exact SameAxis.refl ax s

/-- Settles O30: the writes of a command that names only the other axis, its record, and a query's replies. -/
theorem axesAreIndependent : Obligations.AxesAreIndependent := by
  intro i s t ax unnamed run
  suffices SameAxis ax s t from ⟨this.axis, this.duty, this.dirPin, this.pulPin⟩
  obtain rfl | ⟨-, rfl⟩ | ⟨-, rfl⟩ := exec_cases run
  · refine (applyMotion_sameAxis i.src unnamed s).trans ?_
    cases ax
    all_goals exact ⟨rfl, rfl, rfl, rfl⟩
  · exact SameAxis.refl ax _
  · cases ax
    all_goals exact ⟨rfl, rfl, rfl, rfl⟩

end Sys2Proof.Proofs.Motion
end

section
/-! The statements that rest on 42_query_commands.md: the rounding of an angle (R120), what each query replies
(R121 to R123) and that a query changes nothing but the trace (R125). -/

namespace Sys2Proof.Proofs.Query

open Sys2Proof.Machine Sys2Proof.Claims Sys2Proof.Proofs.Encoding Sys2Proof.Proofs.Decoder

/-! The rounding. -/

theorem deg_of_nonneg {a : Int} (h : 0 ≤ a) : deg a = (a + 5) / 10 := by rw [deg, if_pos h]

theorem deg_of_neg {a : Int} (h : a < 0) : deg a = -((-a + 5) / 10) := by rw [deg, if_neg (Int.not_le.mpr h)]

/-- Settles O31: half a degree is added before the division, on the negative side to the opposite angle. -/
theorem degreesRoundToNearest : Obligations.DegreesRoundToNearest := by
  refine ⟨fun a nonneg => ?_, fun a neg => ?_, by decide⟩
  · rw [deg_of_nonneg nonneg]
    omega
  · have opposite : 0 ≤ -a := by omega
    rw [deg_of_neg neg, deg_of_nonneg opposite]

/-! Which frames ask a query: its token, or the code that `BIN_QUERY` gives it (30_encoding.md R68). -/

/-- A text row is decoded from its token and, if it is a query with a code, from the frames of that code. -/
theorem decode_eq_textRow {c : Cfg} (legal : c.legal = true) {i : Instr} (src : i.src = .text) (f : RawFrame) :
    decode c f = .instr i ↔ LineHas i.opcode f ∨ ∃ code, queryCode c code = some i ∧ FrameHas c code f := by
  constructor
  · intro decoded
    cases f with
    | text t => exact .inl ((decodeText_eq_instr t i).mp decoded).2
    | binary b =>
      obtain ⟨code, carried⟩ | ⟨e, info, invalid⟩ := frameHas_or_invalid (offsetOk_of_legal legal) b
      · rw [decode_frameHas carried] at decoded
        obtain ⟨j, query, ⟨⟩⟩ | ⟨j, -, row, ⟨⟩⟩ | ⟨-, -, ⟨⟩⟩ := decodeCode_cases decoded
        · exact .inr ⟨code, query, carried⟩
        · have binary := ((codeTable_lookup code i).mp row).1
          rw [src] at binary
          cases binary
      · rw [invalid c] at decoded
        cases decoded
  · rintro (line | ⟨code, query, carried⟩)
    · obtain ⟨p, q, rfl, before, after⟩ := line
      exact (decodeText_eq_instr _ i).mpr ⟨src, p, q, rfl, before, after⟩
    · rw [decode_frameHas carried, decodeCode_of_queryCode query]

theorem queryCode_eq_tC (c : Cfg) (code : Byte) :
    queryCode c code = some .tC ↔ ∃ qEl, c.binQuery = some (code, qEl) := by
  cases query : c.binQuery with
  | none => simp [queryCode_of_noQuery query]
  | some codes =>
    obtain ⟨qAz, qEl⟩ := codes
    rw [queryCode_eq query]
    by_cases isAz : code = qAz
    · simp [isAz]
    · simp [isAz, Ne.symm isAz]

/-- The azimuth code is looked up first, so the elevation code is one only where the two differ. -/
theorem queryCode_eq_tB {c : Cfg} (legal : c.legal = true) (code : Byte) :
    queryCode c code = some .tB ↔ ∃ qAz, c.binQuery = some (qAz, code) := by
  cases query : c.binQuery with
  | none => simp [queryCode_of_noQuery query]
  | some codes =>
    obtain ⟨qAz, qEl⟩ := codes
    obtain ⟨distinct, -, -⟩ := queryCodes_of_queryOk (queryOk_of_legal legal) query
    rw [queryCode_eq query]
    by_cases isAz : code = qAz
    · simp [isAz, distinct.symm]
    · simp [isAz, eq_comm]

/-- A query has one row of the opcode table, where a motion command may have two. -/
theorem eq_of_command_eq_query {i j : Instr} (query : i.command.recordable = false)
    (same : j.command = i.command) : j = i := by
  cases i <;> cases query
  case tC | tB | tC2 =>
    cases j <;> cases same
    rfl

theorem command?_eq_query {i : Instr} (query : i.command.recordable = false) (d : Decoded) :
    d.command? = some i.command ↔ d = .instr i := by
  constructor
  · intro asked
    cases d with
    | instr j => rw [eq_of_command_eq_query query (Option.some.inj asked)]
    | unknown info => cases i <;> cases asked
    | invalid e info => cases asked
  · rintro rfl
    rfl

/-! What a query replies. -/

theorem exec_tC (s : State) : exec .tC s = .next { s with trace := s.trace ++ [.resp (azLine s.az.angle)] } :=
  exec_of_query (i := .tC) (by decide) s

theorem exec_tB (s : State) : exec .tB s = .next { s with trace := s.trace ++ [.resp (elLine s.el.angle)] } :=
  exec_of_query (i := .tB) (by decide) s

theorem exec_tC2 (s : State) :
    exec .tC2 s =
      .next { s with trace := s.trace ++ [.resp (azLine s.az.angle), .resp (elLine s.el.angle)] } :=
  exec_of_query (i := .tC2) (by decide) s

/-- Settles O19: the token or the first query code, and the reply to 100 counts. -/
theorem queryAzReplies : Obligations.QueryAzReplies := by
  refine ⟨fun c f legal => ?_, fun s => ⟨exec_tC s, fun angle => ?_⟩⟩
  · have row := (command?_eq_query (i := .tC) rfl (decode c f)).trans (decode_eq_textRow legal rfl f)
    simpa [queryCode_eq_tC, Instr.command, Instr.opcode] using row
  · have reply : azLine 100 = [0x41, 0x5A, 0x3D, 0x31, 0x30] := by decide
    rw [exec_tC, angle, reply]

/-- Settles O20: the token or the second query code, and the reply to 455 counts. -/
theorem queryElReplies : Obligations.QueryElReplies := by
  refine ⟨fun c f legal => ?_, fun s => ⟨exec_tB s, fun angle => ?_⟩⟩
  · have row := (command?_eq_query (i := .tB) rfl (decode c f)).trans (decode_eq_textRow legal rfl f)
    rw [exists_comm]
    simpa [queryCode_eq_tB legal, Instr.command, Instr.opcode] using row
  · have reply : elLine 455 = [0x45, 0x4C, 0x3D, 0x34, 0x36] := by decide
    rw [exec_tB, angle, reply]

/-- Settles O21: the token only, since no code asks both, and the replies to 3599 and 0 counts. -/
theorem queryBothReplies : Obligations.QueryBothReplies := by
  refine ⟨fun c f legal => ?_, fun s => ⟨exec_tC2 s, fun azAngle elAngle => ?_⟩⟩
  · have noCode (code : Byte) : queryCode c code ≠ some .tC2 := fun query => by
      obtain ⟨⟨⟩⟩ | ⟨⟨⟩⟩ := queryCode_eq_some query
    simpa [noCode, Instr.opcode] using decode_eq_textRow legal (i := .tC2) rfl f
  · have azReply : azLine 3599 = [0x41, 0x5A, 0x3D, 0x33, 0x36, 0x30] := by decide
    have elReply : elLine 0 = [0x45, 0x4C, 0x3D, 0x30] := by decide
    rw [exec_tC2, azAngle, elAngle, azReply, elReply]

/-- A query replies one line for each angle it asks. -/
theorem queryReplies_eq_lines {i : Instr} (query : i.command.recordable = false) (s : State) :
    ∃ lines : List (List Byte), (lines.length = 1 ∨ lines.length = 2) ∧
      queryReplies i.command s = lines.map .resp := by
  cases i <;> cases query
  case tC => exact ⟨[azLine s.az.angle], .inl rfl, rfl⟩
  case tB => exact ⟨[elLine s.el.angle], .inl rfl, rfl⟩
  case tC2 => exact ⟨[azLine s.az.angle, elLine s.el.angle], .inr rfl, rfl⟩

theorem acceptFrame_of_instr {f : RawFrame} {i : Instr} {s : State} (decoded : decode s.cfg f = .instr i) :
    acceptFrame f s = exec i s := by
  rw [acceptFrame, decoded]

/-- Settles O26: an instruction that `last_cmd` may not hold is a query, which adds its replies to the trace. -/
theorem queriesArePure : Obligations.QueriesArePure := by
  intro f i s decoded query
  obtain ⟨lines, count, replies⟩ := queryReplies_eq_lines query s
  exact ⟨lines, count, by rw [acceptFrame_of_instr decoded, exec_of_not_motion query, replies]⟩

end Sys2Proof.Proofs.Query
end

section
/-! The statements that rest on 43_pulse_generation.md: the POLL phase's instruction (R131), the pulses of the PULSE
phase under both strategies (R132 to R141) and the iteration that four steps do (R144). -/

namespace Sys2Proof.Proofs.Pulse

open Sys2Proof.Machine Sys2Proof.Claims Sys2Proof.Proofs.Scope Sys2Proof.Proofs.Registers
  Sys2Proof.Proofs.Decoder Sys2Proof.Proofs.Motion Sys2Proof.Proofs.Query

/-! A step, by the phase it finds. -/

theorem step_of_legal {s : State} (legal : s.cfg.legal = true) : step s = runPhase (takeAsync s) := by
  rw [step, if_pos legal]

theorem runPhase_of_poll {s : State} (h : s.phase = .poll) : runPhase s = runPoll s := by
  simp only [runPhase, h]

theorem runPhase_of_pulse {s : State} (h : s.phase = .pulse) : runPhase s = .next (pulsePhase s) := by
  simp only [runPhase, h]

theorem runPhase_of_tick {s : State} (h : s.phase = .tick) : runPhase s = .next (tickPhase s) := by
  simp only [runPhase, h]

theorem runPhase_of_status {s : State} (h : s.phase = .status) : runPhase s = .next (statusPhase s) := by
  simp only [runPhase, h]

theorem runPoll_of_offering {s : State} {f : RawFrame} (offered : nextPoll s = offering f) :
    runPoll s = thenPhase .pulse (acceptFrame f ((s.setPolls s.polls.tail).setFrameBuf f)) := by
  rw [runPoll, offered]
  rfl

/-- Settles O34: the events before the step leave the inputs and the configuration, so POLL takes the frame and
decodes it alike. -/
theorem stepRunsDecodedInstruction : Obligations.StepRunsDecodedInstruction := by
  intro s f i legal phase offered decoded
  obtain ⟨t, run⟩ := exec_completes i (((takeAsync s).setPolls s.polls.tail).setFrameBuf f)
  have sampled : nextPoll (takeAsync s) = offering f := by rw [nextPoll, takeAsync_polls]; exact offered
  refine ⟨t, run, ?_⟩
  rw [step_of_legal legal, runPhase_of_poll phase, runPoll_of_offering sampled, takeAsync_polls,
    acceptFrame_of_instr (by simpa using decoded), run, thenPhase_next]

/-! The PULSE phase under `BusyWait`. -/

/-- The events of one pulse of an axis with these registers (43_pulse_generation.md R135): none while disabled. -/
def pulseEvents (ax : Axis) (a : AxisState) : List Event :=
  if a.enabled then
    [.pinWrite (pulPin ax) .high, .delay (half a.speedParam), .pinWrite (pulPin ax) .low,
      .delay (half a.speedParam)]
  else []

theorem pulseAxis_az_busyWait {s : State} (h : s.cfg.strategy = .busyWait) :
    pulseAxis .az s =
      { s with
        pin := { s.pin with azPul := if s.az.enabled then .low else s.pin.azPul }
        trace := s.trace ++ pulseEvents .az s.az } := by
  cases enabled : s.az.enabled <;>
    simp [pulseAxis, h, busyWaitPulse, pulseEvents, enabled, pinWrite, delayUs, pulPin, State.setPin, State.log]

theorem pulseAxis_el_busyWait {s : State} (h : s.cfg.strategy = .busyWait) :
    pulseAxis .el s =
      { s with
        pin := { s.pin with elPul := if s.el.enabled then .low else s.pin.elPul }
        trace := s.trace ++ pulseEvents .el s.el } := by
  cases enabled : s.el.enabled <;>
    simp [pulseAxis, h, busyWaitPulse, pulseEvents, enabled, pinWrite, delayUs, pulPin, State.setPin, State.log]

/-- Settles O36: the pulse of each axis, azimuth first, writes its own pulse pin and its own events. -/
theorem busyWaitPulses : Obligations.BusyWaitPulses := by
  intro s strategy
  have elStrategy : (pulseAxis .az s).cfg.strategy = .busyWait := by rw [(pulseAxis_frame .az s).cfg, strategy]
  rw [pulsePhase, pulseAxis_el_busyWait elStrategy, pulseAxis_az_busyWait strategy]
  rfl

/-! The PULSE phase under `HwPwm`. -/

theorem pulseAxis_hwPwm {s : State} (h : s.cfg.strategy = .hwPwm) (ax : Axis) :
    pulseAxis ax s = dutyWrite ax (dutyFor s.cfg (s.axis ax)) s := by
  simp only [pulseAxis, h, pwmRefresh, dutyFor]

theorem pulsePhase_duty {s : State} (h : s.Inv) : (pulsePhase s).duty = s.duty := by
  obtain ⟨before, -, -⟩ := (inv_iff s).mp h
  obtain ⟨afterAz, -, -⟩ := (inv_iff _).mp (pulseAxis_inv .az h)
  exact (pulseAxis_duty .el afterAz.duties).trans (pulseAxis_duty .az before.duties)

theorem pulsePhase_hwPwm {s : State} (h : s.cfg.strategy = .hwPwm) :
    pulsePhase s =
      { s with
        duty := { az := dutyFor s.cfg s.az, el := dutyFor s.cfg s.el }
        trace := s.trace ++ [.dutyWrite .az (dutyFor s.cfg s.az), .dutyWrite .el (dutyFor s.cfg s.el)]
        phase := .tick } := by
  have elStrategy : (pulseAxis .az s).cfg.strategy = .hwPwm := by rw [(pulseAxis_frame .az s).cfg, h]
  rw [pulsePhase, pulseAxis_hwPwm elStrategy, pulseAxis_hwPwm h]
  simp [dutyWrite, State.setDuty, State.log, State.setPhase]

/-- Settles O37: each axis writes the duty that `enabled` asks for, which under the invariant is the one held. -/
theorem pwmRefreshesDuties : Obligations.PwmRefreshesDuties :=
  fun _ strategy => ⟨pulsePhase_hwPwm strategy, pulsePhase_duty⟩

/-! The waveform of a pulse pin. -/

theorem pwm_of_legal {c : Cfg} (h : c.legal = true) : 1 ≤ c.pwmDutyOn ∧ c.pwmBits = 8 := by
  simp only [Cfg.legal, Cfg.pwmOk, Bool.and_eq_true, decide_eq_true_eq, beq_iff_eq] at h
  tauto

/-- A legal `PWM_DUTY_ON` fits the duty register. -/
theorem toNat_dutyFor {c : Cfg} (legal : c.legal = true) (a : AxisState) :
    (dutyFor c a).toNat = if a.enabled then c.pwmDutyOn else 0 := by
  have fits := pwmDutyOn_le_of_legal legal
  unfold dutyFor
  split
  · rw [Cfg.dutyOn, BitVec.toNat_ofNat]
    omega
  · rfl

theorem dutyFor_eq_zero_iff {c : Cfg} (legal : c.legal = true) (a : AxisState) :
    dutyFor c a = 0 ↔ a.enabled = false := by
  obtain ⟨positive, -⟩ := pwm_of_legal legal
  have nonzero : c.pwmDutyOn ≠ 0 := by omega
  rw [← BitVec.toNat_inj, toNat_dutyFor legal]
  cases a.enabled <;> simp [nonzero]

theorem dutyOf_eq_dutyFor {s : State} (duties : s.dutiesOk) (strategy : s.cfg.strategy = .hwPwm) (ax : Axis) :
    s.dutyOf ax = dutyFor s.cfg (s.axis ax) := by
  obtain ⟨azDuty, elDuty⟩ := duties.1 strategy
  cases ax
  case az => exact azDuty
  case el => exact elDuty

/-- Settles O38: under the invariant the duty register shows `enabled`, and both outputs are read off it. -/
theorem pwmWaveformFollowsEnable : Obligations.PwmWaveformFollowsEnable := by
  intro s ax h strategy
  obtain ⟨⟨legal, -, duties, -, -, -⟩, -, -⟩ := (inv_iff s).mp h
  obtain ⟨-, bits⟩ := pwm_of_legal legal
  have shown := dutyOf_eq_dutyFor duties strategy ax
  constructor
  · simp [pulseOutput, strategy, shown, toNat_dutyFor legal, bits]
  · simp only [carrierStepRate, shown, dutyFor_eq_zero_iff legal]
    cases (s.axis ax).enabled <;> simp

/-! Rising edges of a pulse pin: a pulse of the axis sends one, and nothing else does. -/

@[simp] theorem risingEdges_append (ax : Axis) (tr evs : List Event) :
    risingEdges ax (tr ++ evs) = risingEdges ax tr + risingEdges ax evs :=
  List.count_append

theorem risingEdges_eq_zero {ax : Axis} {evs : List Event} (h : .pinWrite (pulPin ax) .high ∉ evs) :
    risingEdges ax evs = 0 :=
  List.count_eq_zero.mpr h

theorem risingEdges_pulseEvents (ax : Axis) (a : AxisState) :
    risingEdges ax (pulseEvents ax a) = if a.enabled = true then 1 else 0 := by
  unfold pulseEvents
  split <;> simp [risingEdges]

theorem risingEdges_pulseEvents_other {ax ax' : Axis} (other : ax ≠ ax') (a : AxisState) :
    risingEdges ax (pulseEvents ax' a) = 0 := by
  have pins : pulPin ax ≠ pulPin ax' := by cases ax <;> cases ax' <;> simp_all [pulPin]
  refine risingEdges_eq_zero ?_
  unfold pulseEvents
  split <;> simp [pins]

theorem pulPin_ne_dirPin (ax ax' : Axis) : pulPin ax ≠ dirPin ax' := by
  cases ax <;> cases ax' <;> decide

theorem pulPin_ne_ind (ax : Axis) : pulPin ax ≠ .ind := by
  cases ax <;> decide

theorem setRun_risingEdges (ax ax' : Axis) (d : Dir) (s : State) :
    risingEdges ax (setRun ax' d s).trace = risingEdges ax s.trace := by
  simp only [setRun]
  split <;> simp [risingEdges_eq_zero, pulPin_ne_dirPin]

/-- A deassert writes a pulse pin LOW. -/
theorem setIdle_risingEdges (ax ax' : Axis) (s : State) :
    risingEdges ax (setIdle ax' s).trace = risingEdges ax s.trace := by
  simp only [setIdle]
  split <;> simp [risingEdges_eq_zero]

theorem echoEvents_risingEdges (ax : Axis) (src : Format) (c : Command) :
    risingEdges ax (echoEvents src c) = 0 := by
  refine risingEdges_eq_zero ?_
  cases src <;> simp [echoEvents]

/-- A motion command ends with the indicator and the echo. -/
theorem echo_updateInd_risingEdges (ax : Axis) (src : Format) (c : Command) (s : State) :
    risingEdges ax (echo src c (updateInd s)).trace = risingEdges ax s.trace := by
  have indicator : risingEdges ax [.pinWrite .ind (indLevel s)] = 0 :=
    risingEdges_eq_zero (by simp [pulPin_ne_ind])
  simp only [echo_eq, updateInd_eq, risingEdges_append, indicator, echoEvents_risingEdges, Nat.add_zero]

theorem applyMotion_risingEdges (ax : Axis) (src : Format) (c : Command) (s : State) :
    risingEdges ax (applyMotion src c s).trace = risingEdges ax s.trace := by
  cases c with
  | stop =>
    rw [applyMotion, applyStop, echo_updateInd_risingEdges, setIdle_risingEdges, setIdle_risingEdges]
  | stopAzOnly => rw [applyMotion, applyStopAzOnly, echo_updateInd_risingEdges, setIdle_risingEdges]
  | stopElOnly => rw [applyMotion, applyStopElOnly, echo_updateInd_risingEdges, setIdle_risingEdges]
  | rotateAz d | rotateEl d => rw [applyMotion, applyRotate, echo_updateInd_risingEdges, setRun_risingEdges]
  | rotateBoth a e =>
    rw [applyMotion, applyRotateBoth, echo_updateInd_risingEdges, setRun_risingEdges, setRun_risingEdges]
  | queryAz | queryEl | queryBoth | unknown info => rfl

theorem exec_risingEdges {i : Instr} {s t : State} (run : exec i s = .next t) (ax : Axis) :
    risingEdges ax t.trace = risingEdges ax s.trace := by
  obtain rfl | ⟨-, rfl⟩ | ⟨query, rfl⟩ := exec_cases run
  · exact applyMotion_risingEdges ax _ _ s
  · rfl
  · obtain ⟨lines, -, replies⟩ := queryReplies_eq_lines query s
    simp [replies, risingEdges_eq_zero]

theorem raiseError_risingEdges (ax : Axis) (e : Error) (info : ErrorInfo) (s : State) :
    risingEdges ax (raiseError e info s).trace = risingEdges ax s.trace := by
  rw [raiseError_trace]
  split <;> simp [risingEdges_eq_zero]

theorem acceptFrame_risingEdges {f : RawFrame} {s t : State} (h : acceptFrame f s = .next t) (ax : Axis) :
    risingEdges ax t.trace = risingEdges ax s.trace := by
  obtain ⟨i, -, run⟩ | ⟨info, -, rfl⟩ | ⟨e, info, -, rfl⟩ := acceptFrame_cases h
  · exact exec_risingEdges run ax
  · exact raiseError_risingEdges _ _ _ _
  · exact raiseError_risingEdges _ _ _ _

theorem runPoll_risingEdges {s t : State} (h : runPoll s = .next t) (ax : Axis) :
    risingEdges ax t.trace = risingEdges ax s.trace := by
  obtain ⟨-, rfl⟩ | ⟨f, u, -, -, accepted, rfl⟩ := pollPhase_cases h
  · rfl
  · exact acceptFrame_risingEdges accepted ax

theorem pulsePhase_trace_busyWait {s : State} (h : s.cfg.strategy = .busyWait) :
    (pulsePhase s).trace = s.trace ++ pulseEvents .az s.az ++ pulseEvents .el s.el := by
  rw [busyWaitPulses s h]
  rfl

theorem pulsePhase_risingEdges {s : State} (h : s.cfg.strategy = .busyWait) (ax : Axis) :
    risingEdges ax (pulsePhase s).trace =
      risingEdges ax s.trace + if (s.axis ax).enabled = true then 1 else 0 := by
  rw [pulsePhase_trace_busyWait h, risingEdges_append, risingEdges_append]
  cases ax
  case az =>
    rw [risingEdges_pulseEvents, risingEdges_pulseEvents_other (by decide)]
    rfl
  case el =>
    rw [risingEdges_pulseEvents, risingEdges_pulseEvents_other (by decide)]
    rfl

/-- A step sends an axis one step pulse where it is a PULSE phase with the axis enabled (43_pulse_generation.md
R135, R141). -/
theorem step_risingEdges {s t : State} (strategy : s.cfg.strategy = .busyWait) (noReset : s.noResetNow)
    (h : step s = .next t) (ax : Axis) :
    risingEdges ax t.trace =
      risingEdges ax s.trace + if s.phase = .pulse ∧ (s.axis ax).enabled = true then 1 else 0 := by
  have taken := takeAsync_noReset noReset
  have phase : (takeAsync s).phase = s.phase := by rw [taken]; rfl
  have axis : (takeAsync s).axis ax = s.axis ax := by rw [taken]; simp
  have trace : (takeAsync s).trace = s.trace := by rw [taken]; rfl
  rw [← phase, ← axis, ← trace]
  obtain ⟨-, ⟨now, polled⟩ | ⟨now, rfl⟩ | ⟨now, rfl⟩ | ⟨now, rfl⟩⟩ := step_cases h
  · simp [now, runPoll_risingEdges polled]
  · simp [now, pulsePhase_risingEdges, strategy]
  · simp [now, (tickPhase_frame _).trace]
  · simp [now, statusPhase]

theorem acceptFrame_async {f : RawFrame} {s t : State} (h : acceptFrame f s = .next t) : t.async = s.async := by
  obtain ⟨i, -, run⟩ | ⟨info, -, rfl⟩ | ⟨e, info, -, rfl⟩ := acceptFrame_cases h
  · exact (exec_sameFrame run).async
  · exact raiseError_async _ _ _
  · exact raiseError_async _ _ _

theorem runPoll_async {s t : State} (h : runPoll s = .next t) : t.async = s.async := by
  obtain ⟨-, rfl⟩ | ⟨f, u, -, -, accepted, rfl⟩ := pollPhase_cases h
  · rfl
  · simpa using acceptFrame_async accepted

/-- A step uses up the events before it, and no phase adds any. -/
theorem step_async {s t : State} (h : step s = .next t) : t.async = s.async.tail := by
  rw [← takeAsync_async s]
  obtain ⟨-, ⟨-, polled⟩ | ⟨-, rfl⟩ | ⟨-, rfl⟩ | ⟨-, rfl⟩⟩ := step_cases h
  · exact runPoll_async polled
  · exact (pulsePhase_frame _).async
  · exact (tickPhase_frame _).async
  · rfl

theorem noResetNow_of_noReset {s : State} (h : s.noReset) : s.noResetNow := by
  unfold State.noReset at h
  unfold State.noResetNow
  cases events : s.async with
  | nil => simp
  | cons evs rest => exact h evs (by simp [events])

theorem step_noReset {s t : State} (h : s.noReset) (stepped : step s = .next t) : t.noReset := by
  intro evs mem
  rw [step_async stepped] at mem
  exact h evs (List.mem_of_mem_tail mem)

theorem pulsesDue_of_step {s t : State} (h : step s = .next t) (ax : Axis) (k : Nat) :
    pulsesDue ax (k + 1) s =
      (if s.phase = .pulse ∧ (s.axis ax).enabled = true then 1 else 0) + pulsesDue ax k t := by
  simp only [pulsesDue, h]

/-- Settles O39, by induction on the number of steps. -/
theorem stepPulsesCountPulsePhases : Obligations.StepPulsesCountPulsePhases := by
  intro k
  induction k with
  | zero => rintro s t ax - - ⟨⟩; rfl
  | succ k ih =>
    intro s t ax strategy noReset run
    cases first : step s with
    | next u =>
      rw [runSteps_next first] at run
      have rest := ih u t ax (by rw [step_cfg first, strategy]) (step_noReset noReset first) run
      rw [rest, step_risingEdges strategy (noResetNow_of_noReset noReset) first, pulsesDue_of_step first,
        Nat.add_assoc]
    | fault r => cases r
    | refused r => simp [runSteps, first] at run

/-! The environment's fields: the pending tick and the inputs to come. No command and no pulse reads them, so a
change of them commutes with the phases before TICK (43_pulse_generation.md R144). -/

/-- `s` with another pending tick and other inputs to come. -/
def setEnv (b : Bool) (ps : List PollInput) (as : List (List AsyncEvent)) (s : State) : State :=
  { s with tickPending := b, polls := ps, async := as }

section
variable (b : Bool) (ps : List PollInput) (as : List (List AsyncEvent))

@[simp] theorem setEnv_cfg (s : State) : (setEnv b ps as s).cfg = s.cfg := rfl
@[simp] theorem setEnv_phase (s : State) : (setEnv b ps as s).phase = s.phase := rfl
@[simp] theorem setEnv_async (s : State) : (setEnv b ps as s).async = as := rfl

theorem setRun_setEnv (ax : Axis) (d : Dir) (s : State) :
    setRun ax d (setEnv b ps as s) = setEnv b ps as (setRun ax d s) := by
  cases strategy : s.cfg.strategy with
  | hwPwm =>
    have same : (setEnv b ps as s).cfg.strategy = .hwPwm := strategy
    cases ax
    case az => rw [setRun_az_hwPwm d same, setRun_az_hwPwm d strategy]; rfl
    case el => rw [setRun_el_hwPwm d same, setRun_el_hwPwm d strategy]; rfl
  | busyWait =>
    have same : (setEnv b ps as s).cfg.strategy = .busyWait := strategy
    cases ax
    case az => rw [setRun_az_busyWait d same, setRun_az_busyWait d strategy]; rfl
    case el => rw [setRun_el_busyWait d same, setRun_el_busyWait d strategy]; rfl

theorem setIdle_setEnv (ax : Axis) (s : State) :
    setIdle ax (setEnv b ps as s) = setEnv b ps as (setIdle ax s) := by
  cases strategy : s.cfg.strategy with
  | hwPwm =>
    have same : (setEnv b ps as s).cfg.strategy = .hwPwm := strategy
    cases ax
    case az => rw [setIdle_az_hwPwm same, setIdle_az_hwPwm strategy]; rfl
    case el => rw [setIdle_el_hwPwm same, setIdle_el_hwPwm strategy]; rfl
  | busyWait =>
    have same : (setEnv b ps as s).cfg.strategy = .busyWait := strategy
    cases ax
    case az => rw [setIdle_az_busyWait same, setIdle_az_busyWait strategy]; rfl
    case el => rw [setIdle_el_busyWait same, setIdle_el_busyWait strategy]; rfl

theorem echo_updateInd_setEnv (src : Format) (c : Command) (s : State) :
    echo src c (updateInd (setEnv b ps as s)) = setEnv b ps as (echo src c (updateInd s)) := by
  rw [echo_eq, echo_eq]
  rfl

theorem applyMotion_setEnv (src : Format) (c : Command) (s : State) :
    applyMotion src c (setEnv b ps as s) = setEnv b ps as (applyMotion src c s) := by
  cases c with
  | stop => simp only [applyMotion, applyStop, setIdle_setEnv, echo_updateInd_setEnv]
  | stopAzOnly => simp only [applyMotion, applyStopAzOnly, setIdle_setEnv, echo_updateInd_setEnv]
  | stopElOnly => simp only [applyMotion, applyStopElOnly, setIdle_setEnv, echo_updateInd_setEnv]
  | rotateAz d | rotateEl d => simp only [applyMotion, applyRotate, setRun_setEnv, echo_updateInd_setEnv]
  | rotateBoth a e => simp only [applyMotion, applyRotateBoth, setRun_setEnv, echo_updateInd_setEnv]
  | queryAz | queryEl | queryBoth | unknown info => rfl

theorem acceptMotion_setEnv (c : Command) (s a : State) :
    acceptMotion c (setEnv b ps as s) (setEnv b ps as a) = setEnv b ps as (acceptMotion c s a) :=
  (apply_ite (setEnv b ps as) (s.lastCmd = some c) s (a.setLastCmd c)).symm

theorem exec_setEnv {i : Instr} {s t : State} (run : exec i s = .next t) :
    exec i (setEnv b ps as s) = .next (setEnv b ps as t) := by
  cases motion : i.command.recordable with
  | false =>
    rw [exec_of_not_motion motion] at run ⊢
    cases run
    rfl
  | true =>
    by_cases stop : i.command = .stop
    · rw [exec_of_stop stop] at run ⊢
      cases run
      have applied : applyStop i.src (setEnv b ps as s) = setEnv b ps as (applyStop i.src s) :=
        applyMotion_setEnv b ps as i.src .stop s
      rw [applied]
      rfl
    · rw [exec_of_motion motion stop] at run ⊢
      cases run
      rw [applyMotion_setEnv, acceptMotion_setEnv]

theorem raiseError_setEnv (e : Error) (info : ErrorInfo) (s : State) :
    raiseError e info (setEnv b ps as s) = setEnv b ps as (raiseError e info s) := by
  cases e <;> rfl

theorem acceptFrame_setEnv {f : RawFrame} {s t : State} (h : acceptFrame f s = .next t) :
    acceptFrame f (setEnv b ps as s) = .next (setEnv b ps as t) := by
  obtain ⟨i, decoded, run⟩ | ⟨info, decoded, rfl⟩ | ⟨e, info, decoded, rfl⟩ := acceptFrame_cases h
  · rw [acceptFrame, setEnv_cfg, decoded]
    exact exec_setEnv b ps as run
  · rw [acceptFrame, setEnv_cfg, decoded]
    exact congrArg Host.Outcome.next (raiseError_setEnv b ps as _ _ s)
  · rw [acceptFrame, setEnv_cfg, decoded]
    exact congrArg Host.Outcome.next (raiseError_setEnv b ps as _ _ s)

theorem pollPhase_setEnv {rx : Option RawFrame} {disc : Bool} {s t : State}
    (h : pollPhase rx disc s = .next t) : pollPhase rx disc (setEnv b ps as s) = .next (setEnv b ps as t) := by
  obtain ⟨rfl | rfl, rfl⟩ | ⟨f, u, rfl, rfl, accepted, rfl⟩ := pollPhase_cases h
  · rfl
  · cases disc <;> rfl
  · have moved := acceptFrame_setEnv b ps as accepted
    exact congrArg (thenPhase .pulse) moved

theorem pulseAxis_setEnv (ax : Axis) (s : State) :
    pulseAxis ax (setEnv b ps as s) = setEnv b ps as (pulseAxis ax s) := by
  cases strategy : s.cfg.strategy with
  | hwPwm =>
    have same : (setEnv b ps as s).cfg.strategy = .hwPwm := strategy
    rw [pulseAxis_hwPwm same, pulseAxis_hwPwm strategy]
    cases ax <;> rfl
  | busyWait =>
    have same : (setEnv b ps as s).cfg.strategy = .busyWait := strategy
    cases ax
    case az => rw [pulseAxis_az_busyWait same, pulseAxis_az_busyWait strategy]; rfl
    case el => rw [pulseAxis_el_busyWait same, pulseAxis_el_busyWait strategy]; rfl

theorem pulsePhase_setEnv (s : State) : pulsePhase (setEnv b ps as s) = setEnv b ps as (pulsePhase s) := by
  rw [pulsePhase, pulseAxis_setEnv, pulseAxis_setEnv]
  rfl

end

/-! The TICK phase reads the pending tick and none of the inputs to come. -/

theorem angleUpdateAz_setAsync (as : List (List AsyncEvent)) (s : State) :
    angleUpdateAz (s.setAsync as) = (angleUpdateAz s).setAsync as :=
  (apply_ite (State.setAsync · as) (s.az.enabled = true)
    (s.setAngle .az (azNext s.cfg s.az.direction s.az.angle)) s).symm

theorem angleUpdateEl_setAsync (as : List (List AsyncEvent)) (s : State) :
    angleUpdateEl (s.setAsync as) = (angleUpdateEl s).setAsync as :=
  (apply_ite (State.setAsync · as) (s.el.enabled = true)
    (s.setAngle .el (elNext s.cfg s.el.direction s.el.angle)) s).symm

theorem tickPhase_of_pending {s : State} (h : s.tickPending = true) :
    tickPhase s = (angleUpdateEl (angleUpdateAz (s.setTickPending false))).setPhase .status := by
  simp only [tickPhase, h, if_true]

theorem tickPhase_of_not_pending {s : State} (h : s.tickPending = false) : tickPhase s = s.setPhase .status := by
  simp only [tickPhase, h, Bool.false_eq_true, if_false]

theorem tickPhase_setAsync (as : List (List AsyncEvent)) (s : State) :
    tickPhase (s.setAsync as) = (tickPhase s).setAsync as := by
  cases pending : s.tickPending with
  | false =>
    rw [tickPhase_of_not_pending (by simpa using pending), tickPhase_of_not_pending pending]
    rfl
  | true =>
    have cleared : (s.setAsync as).setTickPending false = (s.setTickPending false).setAsync as := rfl
    rw [tickPhase_of_pending (by simpa using pending), tickPhase_of_pending pending, cleared,
      angleUpdateAz_setAsync, angleUpdateEl_setAsync]
    rfl

/-! A step of each phase of an iteration, with `n` timer expiries before it. -/

section
variable {s : State} (b : Bool) (n : Nat) (ps : List PollInput) (as : List (List AsyncEvent))

theorem step_setEnv (legal : s.cfg.legal = true) :
    step (setEnv b ps (List.replicate n .tickFire :: as) s) =
      runPhase (setEnv (b || decide (1 ≤ n)) ps as s) := by
  have noReset : (setEnv b ps (List.replicate n .tickFire :: as) s).noResetNow := by
    simp [State.noResetNow, List.mem_replicate]
  rw [step_of_legal (by simpa using legal), takeAsync_noReset noReset]
  cases n <;> rfl

/-- Where nothing falls before a step, it uses up the empty list of events and runs the phase. -/
theorem step_setAsync_quiet (legal : s.cfg.legal = true) :
    step (s.setAsync ([] :: as)) = runPhase (s.setAsync as) := by
  rw [step_of_legal (by simpa using legal)]
  rfl

theorem step_poll_setEnv {rx : Option RawFrame} {disc : Bool} {t : State} (legal : s.cfg.legal = true)
    (phase : s.phase = .poll) (polled : pollPhase rx disc s = .next t) :
    step (setEnv b ({ rx := rx, disc := disc } :: ps) (List.replicate n .tickFire :: as) s) =
      .next (setEnv (b || decide (1 ≤ n)) ps as t) := by
  have moved := pollPhase_setEnv (b || decide (1 ≤ n)) ps as polled
  rw [step_setEnv _ _ _ _ legal, runPhase_of_poll (by simpa using phase)]
  exact moved

theorem step_pulse_setEnv (legal : s.cfg.legal = true) (phase : s.phase = .pulse) :
    step (setEnv b ps (List.replicate n .tickFire :: as) s) =
      .next (setEnv (b || decide (1 ≤ n)) ps as (pulsePhase s)) := by
  rw [step_setEnv _ _ _ _ legal, runPhase_of_pulse (by simpa using phase), pulsePhase_setEnv]

/-- The last two steps of an iteration: TICK reads the pending tick, and nothing falls before STATUS. -/
theorem runSteps_tick_status_setEnv (legal : s.cfg.legal = true) (phase : s.phase = .tick) :
    runSteps 2 (setEnv b ps (List.replicate n .tickFire :: [] :: as) s) =
      .next (statusPhase (tickPhase (setEnv (b || decide (1 ≤ n)) ps as s))) := by
  have ticked : step (setEnv b ps (List.replicate n .tickFire :: [] :: as) s) =
      .next ((tickPhase (setEnv (b || decide (1 ≤ n)) ps as s)).setAsync ([] :: as)) := by
    rw [step_setEnv _ _ _ _ legal, runPhase_of_tick (by simpa using phase), ← tickPhase_setAsync]
    rfl
  have quiet : step ((tickPhase (setEnv (b || decide (1 ≤ n)) ps as s)).setAsync ([] :: as)) =
      .next (statusPhase (tickPhase (setEnv (b || decide (1 ≤ n)) ps as s))) := by
    have frame := tickPhase_frame (setEnv (b || decide (1 ≤ n)) ps as s)
    rw [step_setAsync_quiet as (by simpa [frame.cfg] using legal), ← tickPhase_setAsync,
      runPhase_of_status rfl]
    rfl
  rw [runSteps_next ticked, runSteps_next quiet]
  rfl

/-- An iteration whose POLL phase ends in `t`: the expiries set the pending tick before TICK. -/
theorem iteration_setEnv {rx : Option RawFrame} {disc : Bool} {t : State}
    (polled : pollPhase rx disc s = .next t) :
    iteration rx disc n (setEnv b ps as s) =
      .next (statusPhase (tickPhase (setEnv (b || decide (1 ≤ n)) ps as (pulsePhase t)))) := by
  simp only [iteration, pollPhase_setEnv b ps as polled, pulsePhase_setEnv]
  by_cases fired : 1 ≤ n
  · simp only [fired, if_true, decide_true, Bool.or_true]
    rfl
  · simp only [fired, if_false, decide_false, Bool.or_false]

end

theorem pollPhase_phase {rx : Option RawFrame} {disc : Bool} {s t : State} (h : pollPhase rx disc s = .next t) :
    t.phase = .pulse := by
  obtain ⟨-, rfl⟩ | ⟨f, u, -, -, -, rfl⟩ := pollPhase_cases h
  · rfl
  · rfl

theorem fired_or_fired (b : Bool) (m n : Nat) :
    ((b || decide (1 ≤ m)) || decide (1 ≤ n)) = (b || decide (1 ≤ m + n)) := by
  have total : 1 ≤ m ∨ 1 ≤ n ↔ 1 ≤ m + n := by omega
  rw [Bool.or_assoc, ← Bool.decide_or, decide_eq_decide.mpr total]

/-- Settles O58: the first three steps gather the expiries in the pending tick, which only TICK reads. -/
theorem fourStepsAreOneIteration : Obligations.FourStepsAreOneIteration := by
  intro s rx disc n0 n1 n2 ps as legal phase
  obtain ⟨t, polled⟩ := pollPhase_completes rx disc s
  have polledLegal : t.cfg.legal = true := by rw [pollPhase_cfg polled, legal]
  have pulsedLegal : (pulsePhase t).cfg.legal = true := by rw [(pulsePhase_frame t).cfg, polledLegal]
  calc runSteps 4 (setEnv s.tickPending ({ rx := rx, disc := disc } :: ps)
        (List.replicate n0 .tickFire :: List.replicate n1 .tickFire :: List.replicate n2 .tickFire :: [] :: as) s)
    _ = runSteps 3 _ := runSteps_next (step_poll_setEnv _ _ _ _ legal phase polled)
    _ = runSteps 2 _ := runSteps_next (step_pulse_setEnv _ _ _ _ polledLegal (pollPhase_phase polled))
    _ = .next _ := runSteps_tick_status_setEnv _ _ _ _ pulsedLegal rfl
    _ = iteration rx disc (n0 + n1 + n2) (setEnv s.tickPending ps as s) := by
      rw [iteration_setEnv _ _ _ _ polled, fired_or_fired s.tickPending n0 n1, fired_or_fired]

end Sys2Proof.Proofs.Pulse
end

section
/-! The statements that rest on 44_angle_accumulator.md: the TICK phase and the two angle updates (R151 to R153),
what gates them (R154, R155) and which expiries and commands a tick sees (R158, R159). -/

namespace Sys2Proof.Proofs.Accumulator

open Sys2Proof.Machine Sys2Proof.Claims Sys2Proof.Proofs.Scope Sys2Proof.Proofs.Registers Sys2Proof.Proofs.Motion
  Sys2Proof.Proofs.Query Sys2Proof.Proofs.Pulse

/-! One update, said once for both axes. -/

/-- The angle that one tick gives a running axis. -/
def nextAngle (c : Cfg) : Axis → Dir → Angle → Angle
  | .az => azNext c
  | .el => elNext c

/-- The angle that one tick gives an axis with these registers. -/
def tickedAngle (c : Cfg) (ax : Axis) (a : AxisState) : Angle :=
  if a.enabled then nextAngle c ax a.direction a.angle else a.angle

/-- `AngleUpdate(ax)` (44_angle_accumulator.md R152, R153). -/
def angleUpdate : Axis → State → State
  | .az => angleUpdateAz
  | .el => angleUpdateEl

theorem tickedAngle_of_enabled {a : AxisState} (h : a.enabled = true) (c : Cfg) (ax : Axis) :
    tickedAngle c ax a = nextAngle c ax a.direction a.angle := if_pos h

theorem tickedAngle_of_disabled {a : AxisState} (h : a.enabled = false) (c : Cfg) (ax : Axis) :
    tickedAngle c ax a = a.angle := if_neg (Bool.eq_false_iff.mp h)

theorem setAngle_self (s : State) (ax : Axis) : s.setAngle ax (s.axis ax).angle = s := by
  cases ax <;> rfl

theorem setAngle_setAngle (s : State) (ax : Axis) (a b : Angle) :
    (s.setAngle ax a).setAngle ax b = s.setAngle ax b := by
  cases ax <;> rfl

theorem angleUpdate_eq (ax : Axis) (s : State) :
    angleUpdate ax s = s.setAngle ax (tickedAngle s.cfg ax (s.axis ax)) := by
  cases running : (s.axis ax).enabled with
  | false =>
    rw [tickedAngle_of_disabled running, setAngle_self]
    cases ax
    all_goals exact if_neg (Bool.eq_false_iff.mp running)
  | true =>
    rw [tickedAngle_of_enabled running]
    cases ax
    all_goals exact if_pos running

/-! The TICK phase. -/

theorem tickPhase_eq_of_pending {s : State} (h : s.tickPending = true) :
    tickPhase s =
      { s with
        tickPending := false
        az := { s.az with angle := tickedAngle s.cfg .az s.az }
        el := { s.el with angle := tickedAngle s.cfg .el s.el }
        phase := .status } := by
  calc tickPhase s
    _ = (angleUpdate .el (angleUpdate .az (s.setTickPending false))).setPhase .status := tickPhase_of_pending h
    _ = _ := by
      rw [angleUpdate_eq .el, angleUpdate_eq .az]
      rfl

/-- Settles O40: with the tick pending, each update writes its own axis's angle. -/
theorem tickPhaseConsumesTick : Obligations.TickPhaseConsumesTick :=
  fun _ => ⟨tickPhase_of_not_pending, tickPhase_eq_of_pending⟩

theorem tickPhase_angle (s : State) (ax : Axis) :
    ((tickPhase s).axis ax).angle =
      if s.tickPending then tickedAngle s.cfg ax (s.axis ax) else (s.axis ax).angle := by
  cases pending : s.tickPending with
  | false =>
    rw [tickPhase_of_not_pending pending, State.setPhase_axis]
    rfl
  | true =>
    rw [tickPhase_eq_of_pending pending]
    cases ax <;> rfl

/-! Any number of updates: the direction and the configuration stay, so the angle is stepped alike each time. -/

theorem angleUpdate_iterate_of_disabled {s : State} {ax : Axis} (h : (s.axis ax).enabled = false) (n : Nat) :
    (angleUpdate ax)^[n] s = s :=
  Function.iterate_fixed (by rw [angleUpdate_eq, tickedAngle_of_disabled h, setAngle_self]) n

theorem angleUpdate_iterate_of_enabled {s : State} {ax : Axis} (h : (s.axis ax).enabled = true) (n : Nat) :
    (angleUpdate ax)^[n] s = s.setAngle ax ((nextAngle s.cfg ax (s.axis ax).direction)^[n] (s.axis ax).angle) := by
  induction n with
  | zero => exact (setAngle_self s ax).symm
  | succ n ih =>
    have running (a : Angle) : ((s.setAngle ax a).axis ax).enabled = true := by rw [State.setAngle_axis_same, h]
    rw [Function.iterate_succ_apply', ih, angleUpdate_eq, tickedAngle_of_enabled (running _), setAngle_setAngle,
      State.setAngle_axis_same, State.setAngle_cfg, Function.iterate_succ_apply']

theorem angleStep_of_legal {c : Cfg} (h : c.legal = true) : c.angleStep = 1 := by
  simp only [Cfg.legal, Cfg.tickOk, Bool.and_eq_true, beq_iff_eq] at h
  tauto

theorem toInt_azNext {c : Cfg} (legal : c.legal = true) (d : Dir) (a : Angle) :
    (azNext c d a).toInt = (a.toInt + angleStep c d) % 3600 := by
  have lower := Int.emod_nonneg (a.toInt + angleStep c d) (b := 3600) (by decide)
  have upper := Int.emod_lt_of_pos (a.toInt + angleStep c d) (b := 3600) (by decide)
  rw [azNext, azMod_of_legal legal, Nat.cast_ofNat, toInt_angle (by omega) (by omega)]

/-- Wrapping at each tick is wrapping once at the end. -/
theorem toInt_azNext_iterate {c : Cfg} (legal : c.legal = true) (d : Dir) (n : Nat) {a : Angle}
    (lower : 0 ≤ a.toInt) (upper : a.toInt ≤ 3599) :
    ((azNext c d)^[n] a).toInt = (a.toInt + n * angleStep c d) % 3600 := by
  induction n with
  | zero =>
    rw [Function.iterate_zero_apply, Nat.cast_zero, zero_mul, add_zero]
    exact (Int.emod_eq_of_lt lower (by omega)).symm
  | succ n ih =>
    rw [Function.iterate_succ_apply', toInt_azNext legal, ih, Int.emod_add_emod]
    congr 1
    push_cast
    ring

/-- Settles O41: the updates step the angle `n` times, and the wraps come to one. -/
theorem azimuthTicksWrap : Obligations.AzimuthTicksWrap := by
  intro n s legal lower upper
  by_cases running : s.az.enabled = true
  · have updated : angleUpdateAz^[n] s = s.setAngle .az ((azNext s.cfg s.az.direction)^[n] s.az.angle) :=
      angleUpdate_iterate_of_enabled (ax := .az) running n
    rw [updated]
    refine ⟨rfl, ?_⟩
    rw [if_pos running, State.setAngle_az_az, toInt_azNext_iterate legal _ n lower upper]
    cases s.az.direction with
    | forward => simp [angleStep, angleStep_of_legal legal]
    | backward => simp [angleStep, angleStep_of_legal legal, Int.sub_eq_add_neg]
  · have updated : angleUpdateAz^[n] s = s :=
      angleUpdate_iterate_of_disabled (ax := .az) (Bool.eq_false_iff.mpr running) n
    rw [updated]
    exact ⟨rfl, (if_neg running).symm⟩

theorem toInt_elNext {c : Cfg} (legal : c.legal = true) (d : Dir) (a : Angle) :
    (elNext c d a).toInt = clamp (a.toInt + angleStep c d) c.elMin c.elMax := by
  obtain ⟨order, elMin, elMax, -⟩ := ranges_of_legal legal
  obtain ⟨lower, upper⟩ := clamp_in_range (a.toInt + angleStep c d) order.le
  exact toInt_angle (by omega) (by omega)

/-- From above the lower bound, `n` steps forward meet the upper bound only. -/
theorem clamp_forward {c : Cfg} (legal : c.legal = true) (n : Nat) {a : Int} (lower : c.elMin ≤ a) :
    clamp (a + n * angleStep c .forward) c.elMin c.elMax = min (a + n) c.elMax := by
  simp only [clamp, angleStep, angleStep_of_legal legal]
  split_ifs <;> omega

/-- From below the upper bound, `n` steps backward meet the lower bound only. -/
theorem clamp_backward {c : Cfg} (legal : c.legal = true) (n : Nat) {a : Int} (upper : a ≤ c.elMax) :
    clamp (a + n * angleStep c .backward) c.elMin c.elMax = max (a - n) c.elMin := by
  have order := (ranges_of_legal legal).1
  simp only [clamp, angleStep, angleStep_of_legal legal]
  split_ifs <;> omega

/-- One step after `n` steps in the same direction: what the clamp cut off stays cut off. -/
theorem clamp_clamp_step {c : Cfg} (legal : c.legal = true) (d : Dir) (n : Nat) {a : Int}
    (lower : c.elMin ≤ a) (upper : a ≤ c.elMax) :
    clamp (clamp (a + n * angleStep c d) c.elMin c.elMax + angleStep c d) c.elMin c.elMax =
      clamp (a + (n + 1 : Nat) * angleStep c d) c.elMin c.elMax := by
  have order := (ranges_of_legal legal).1
  cases d with
  | forward =>
    rw [clamp_forward legal n lower, clamp_forward legal (n + 1) lower]
    simp only [clamp, angleStep, angleStep_of_legal legal]
    split_ifs <;> omega
  | backward =>
    rw [clamp_backward legal n upper, clamp_backward legal (n + 1) upper]
    simp only [clamp, angleStep, angleStep_of_legal legal]
    split_ifs <;> omega

/-- In one direction, clamping at each tick is clamping once at the end. -/
theorem toInt_elNext_iterate {c : Cfg} (legal : c.legal = true) (d : Dir) (n : Nat) {a : Angle}
    (lower : c.elMin ≤ a.toInt) (upper : a.toInt ≤ c.elMax) :
    ((elNext c d)^[n] a).toInt = clamp (a.toInt + n * angleStep c d) c.elMin c.elMax := by
  induction n with
  | zero =>
    rw [Function.iterate_zero_apply, Nat.cast_zero, zero_mul, add_zero, clamp, if_neg (by omega), if_neg (by omega)]
  | succ n ih => rw [Function.iterate_succ_apply', toInt_elNext legal, ih, clamp_clamp_step legal d n lower upper]

/-- Settles O42: the updates step the angle `n` times, and only the bound ahead is met. -/
theorem elevationTicksClamp : Obligations.ElevationTicksClamp := by
  intro n s legal lower upper
  by_cases running : s.el.enabled = true
  · have updated : angleUpdateEl^[n] s = s.setAngle .el ((elNext s.cfg s.el.direction)^[n] s.el.angle) :=
      angleUpdate_iterate_of_enabled (ax := .el) running n
    rw [updated]
    refine ⟨rfl, ?_⟩
    rw [if_pos running, State.setAngle_el_el, toInt_elNext_iterate legal _ n lower upper]
    cases s.el.direction with
    | forward => exact clamp_forward legal n lower
    | backward => exact clamp_backward legal n upper
  · have updated : angleUpdateEl^[n] s = s :=
      angleUpdate_iterate_of_disabled (ax := .el) (Bool.eq_false_iff.mpr running) n
    rw [updated]
    exact ⟨rfl, (if_neg running).symm⟩

/-! What moves an angle: no command, no pulse, and a tick only of an enabled axis. -/

theorem axisAfter_angle (c : Command) (ax : Axis) (a : AxisState) : (axisAfter c ax a).angle = a.angle := by
  cases c <;> cases ax <;> rfl

theorem acceptFrame_angle {f : RawFrame} {s t : State} (h : acceptFrame f s = .next t) (ax : Axis) :
    (t.axis ax).angle = (s.axis ax).angle := by
  obtain same | ⟨i, -, applied⟩ := acceptFrame_axis h ax
  · rw [same]
  · rw [applied, axisAfter_angle]

theorem pollPhase_angle {rx : Option RawFrame} {disc : Bool} {s t : State} (h : pollPhase rx disc s = .next t)
    (ax : Axis) : (t.axis ax).angle = (s.axis ax).angle := by
  obtain ⟨-, rfl⟩ | ⟨f, u, -, -, accepted, rfl⟩ := pollPhase_cases h
  · rw [State.setPhase_axis]
  · rw [State.setPhase_axis, acceptFrame_angle accepted, State.setFrameBuf_axis]

/-- Settles O43: of the four phases only TICK writes an angle, under the two conditions of its update. -/
theorem angleMovesOnlyAtTick : Obligations.AngleMovesOnlyAtTick := by
  intro s t ax noReset h moved
  have phase : (takeAsync s).phase = s.phase := by rw [takeAsync_noReset noReset]; rfl
  have before : (takeAsync s).axis ax = s.axis ax := by rw [takeAsync_noReset noReset]; simp
  rw [← phase]
  rw [← before] at moved ⊢
  obtain ⟨-, ⟨-, polled⟩ | ⟨-, rfl⟩ | ⟨now, rfl⟩ | ⟨-, rfl⟩⟩ := step_cases h
  · exact absurd (by rw [pollPhase_angle polled, State.setPolls_axis]) moved
  · exact absurd (by rw [pulsePhase_axis]) moved
  · rw [tickPhase_angle] at moved
    refine ⟨now, ?_, ?_⟩
    · by_contra quiet
      exact moved (if_neg quiet)
    · by_contra idle
      exact moved (by rw [tickedAngle_of_disabled (Bool.eq_false_iff.mpr idle), ite_self])
  · exact absurd (by rw [statusPhase, State.setPhase_axis]) moved

/-- Settles O44: the angles after TICK are a function of the registers that the two states share. -/
theorem anglesIgnorePulses : Obligations.AnglesIgnorePulses := by
  refine ⟨fun s u cfg pending same ax => ?_, fun s ax => by rw [pulsePhase_axis]⟩
  obtain ⟨enabled, direction, angle⟩ := same ax
  rw [tickPhase_angle, tickPhase_angle, tickedAngle, tickedAngle, cfg, pending, enabled, direction, angle]

/-! An iteration: TICK finds the axes as POLL left them. -/

/-- The angles after an iteration, from the axes after its POLL phase. -/
theorem iteration_angle {rx : Option RawFrame} {disc : Bool} {fires : Nat} {s u t : State}
    (polled : pollPhase rx disc s = .next u) (h : iteration rx disc fires s = .next t) (ax : Axis) :
    (t.axis ax).angle =
      if s.tickPending || decide (1 ≤ fires) then tickedAngle s.cfg ax (u.axis ax) else (s.axis ax).angle := by
  have ends := iteration_setEnv s.tickPending fires s.polls s.async polled
  have pulsed : (setEnv (s.tickPending || decide (1 ≤ fires)) s.polls s.async (pulsePhase u)).axis ax = u.axis ax := by
    rw [← pulsePhase_axis u ax]
    cases ax <;> rfl
  cases h.symm.trans ends
  rw [statusPhase, State.setPhase_axis, tickPhase_angle, pulsed, setEnv_cfg, (pulsePhase_frame u).cfg,
    pollPhase_cfg polled, pollPhase_angle polled]
  rfl

/-- Settles O45: POLL ends in the state the instruction leaves, whose angles are still those before it. -/
theorem tickSeesTheNewCommand : Obligations.TickSeesTheNewCommand := by
  intro f i fires s t u decoded run h
  have accepted := (acceptFrame_of_instr (s := s.setFrameBuf f) decoded).trans run
  have polled : pollPhase (some f) false s = .next (u.setPhase .pulse) := congrArg (thenPhase .pulse) accepted
  have kept (ax : Axis) : (u.axis ax).angle = (s.axis ax).angle := by
    rw [acceptFrame_angle accepted, State.setFrameBuf_axis]
  have idle (ax : Axis) (disabled : (u.axis ax).enabled = false) : (t.axis ax).angle = (s.axis ax).angle := by
    rw [iteration_angle polled h, State.setPhase_axis, tickedAngle_of_disabled disabled, kept, ite_self]
  have running (ax : Axis) (due : 1 ≤ fires ∨ s.tickPending = true) (enabled : (u.axis ax).enabled = true) :
      (t.axis ax).angle = nextAngle s.cfg ax (u.axis ax).direction (s.axis ax).angle := by
    rw [iteration_angle polled h, State.setPhase_axis, tickedAngle_of_enabled enabled, kept,
      if_pos (by simpa [or_comm] using due)]
  exact ⟨idle .az, idle .el, running .az, running .el⟩

/-- Settles O60: the expiries are read as none or some, and a pending tick is set again. -/
theorem lateTicksAreLost : Obligations.LateTicksAreLost := by
  refine ⟨fun rx disc n s fired => ?_, fun s pending => ?_⟩
  · simp only [iteration, fired, le_refl, if_true]
  · rw [asyncEvent, State.setTickPending, ← pending]

end Sys2Proof.Proofs.Accumulator
end

section
/-! The statements that rest on 60_exceptions.md: what a rejected frame reports (R170) and that a disconnect has no
effect (R169), with the phases that take no input (43_pulse_generation.md R131, R133). -/

namespace Sys2Proof.Proofs.Exceptions

open Sys2Proof.Machine Sys2Proof.Claims Sys2Proof.Proofs.Decoder Sys2Proof.Proofs.Pulse

/-! Raising an error. -/

/-- The decoder raises the two format errors only: a disconnect is the transport's to report. -/
theorem ne_disconnected_of_decode_invalid {c : Cfg} {f : RawFrame} {e : Error} {info : ErrorInfo}
    (h : decode c f = .invalid e info) : e ≠ .transportDisconnected := by
  cases f with
  | binary b =>
    obtain ⟨-, ⟨⟩⟩ | ⟨-, -, ⟨⟩⟩ | ⟨-, looked⟩ := decode_binary_cases h
    · decide
    · decide
    · exact absurd looked.symm (decodeCode_ne_invalid _ _ _ _)
  | text t =>
    obtain ⟨i, decoded⟩ | decoded := decodeText_cases t
    · cases decoded.symm.trans h
    · cases decoded.symm.trans h

theorem raiseError_eq_log {e : Error} (reported : e ≠ .transportDisconnected) (info : ErrorInfo) (s : State) :
    raiseError e info s = s.log (.diag e info) := by
  cases e with
  | transportDisconnected => exact absurd rfl reported
  | frameTooShort => rfl
  | badSyncBytes => rfl
  | unknownCommandCode => rfl

theorem acceptFrame_of_unknown {f : RawFrame} {s : State} {info : UnknownInfo}
    (decoded : decode s.cfg f = .unknown info) :
    acceptFrame f s = .next (s.log (.diag .unknownCommandCode (.unknown info))) := by
  rw [acceptFrame, decoded]
  rfl

theorem acceptFrame_of_invalid {f : RawFrame} {s : State} {e : Error} {info : ErrorInfo}
    (decoded : decode s.cfg f = .invalid e info) : acceptFrame f s = .next (s.log (.diag e info)) := by
  rw [acceptFrame, decoded, ← raiseError_eq_log (ne_disconnected_of_decode_invalid decoded)]

theorem pollPhase_of_accepted {f : RawFrame} {s t : State} (accepted : acceptFrame f (s.setFrameBuf f) = .next t) :
    pollPhase (some f) false s = .next (t.setPhase .pulse) :=
  congrArg (thenPhase .pulse) accepted

/-- Settles O46: the frame is in the buffer before it is decoded, and the error logs its diagnostic. -/
theorem errorsOnlyReport : Obligations.ErrorsOnlyReport :=
  fun f s =>
    ⟨fun _ decoded => pollPhase_of_accepted (acceptFrame_of_unknown (s := s.setFrameBuf f) decoded),
      fun _ _ decoded => pollPhase_of_accepted (acceptFrame_of_invalid (s := s.setFrameBuf f) decoded)⟩

/-! A step that takes no frame. -/

theorem pollPhase_of_no_frame {rx : Option RawFrame} {disc : Bool} (h : disc = true ∨ rx = none) (s : State) :
    pollPhase rx disc s = .next (s.setPhase .pulse) := by
  obtain rfl | rfl := h
  · rfl
  · cases disc with
    | true => rfl
    | false => rfl

/-- With no reset among them, some event falls before the step exactly where an expiry does. -/
theorem tickBeforeStep_eq {s : State} (noReset : s.noResetNow) :
    tickBeforeStep s = (s.tickPending || !(s.async.headD []).isEmpty) := by
  unfold tickBeforeStep
  unfold State.noResetNow at noReset
  cases events : s.async.headD [] with
  | nil => rfl
  | cons e es =>
    cases e with
    | tickFire => rfl
    | reset => exact absurd List.mem_cons_self (events ▸ noReset)

theorem takeAsync_eq_tickBeforeStep {s : State} (noReset : s.noResetNow) :
    takeAsync s = (s.setAsync s.async.tail).setTickPending (tickBeforeStep s) := by
  rw [takeAsync_noReset noReset, tickBeforeStep_eq noReset]

/-- Settles O47: a POLL phase without a frame and a STATUS phase only set the phase, after the timer has set the
pending tick. -/
theorem disconnectHasNoEffect : Obligations.DisconnectHasNoEffect := by
  intro s legal noReset
  have before := takeAsync_eq_tickBeforeStep noReset
  refine ⟨fun phase nothing => ?_, fun phase => ?_⟩
  · rw [step_of_legal legal, before, runPhase_of_poll (by simpa using phase)]
    exact pollPhase_of_no_frame nothing _
  · rw [step_of_legal legal, before, runPhase_of_status (by simpa using phase)]
    rfl

end Sys2Proof.Proofs.Exceptions
end

section
/-! The statements that rest on 70_reset_and_hazards.md: the invariant at reset (R191), and that the block never
halts and runs as a list of iterations (R204). -/

namespace Sys2Proof.Proofs.Reset

open Sys2Proof.Machine Sys2Proof.Proofs.Scope Sys2Proof.Proofs.Registers Sys2Proof.Proofs.Pulse

/-- Settles O54: the reset state is that of a configuration, which is legal. -/
theorem invariantHoldsAtReset : Obligations.InvariantHoldsAtReset := by
  have fixedLegal : Cfg.fixed.legal = true := by decide
  exact ⟨resetWith_inv fixedLegal, fun _ => resetWith_inv⟩

/-- Settles O57, by induction on the number of steps: a step completes under a legal configuration and keeps it. -/
theorem blockNeverHalts : Obligations.BlockNeverHalts := by
  intro s legal k
  induction k generalizing s with
  | zero => exact ⟨s, rfl⟩
  | succ k ih =>
    obtain ⟨t, first⟩ := step_completes legal
    rw [runSteps_next first]
    exact ih t (by rw [step_cfg first, legal])

/-! Runs of either kind continue from the state they have reached. -/

theorem runSteps_add {j : Nat} {s t : State} (h : runSteps j s = .next t) (k : Nat) :
    runSteps (j + k) s = runSteps k t := by
  induction j generalizing s with
  | zero => cases h; rw [Nat.zero_add]
  | succ j ih =>
    cases first : step s with
    | next u =>
      rw [runSteps_next first] at h
      rw [Nat.succ_add, runSteps_next first, ih h]
    | fault r => cases r
    | refused r => simp [runSteps, first] at h

theorem runIterations_cons_next {i : IterInput} {s t : State} (h : iteration i.rx i.disc i.fires s = .next t)
    (is : List IterInput) : runIterations (i :: is) s = runIterations is t := by
  simp only [runIterations, h]

/-! An iteration neither reads nor writes the inputs held for the steps to come. -/

/-- `s` with other inputs to come. -/
def setInputs (ps : List PollInput) (as : List (List AsyncEvent)) (s : State) : State :=
  { s with polls := ps, async := as }

section
variable (ps : List PollInput) (as : List (List AsyncEvent))

theorem setEnv_eq_setInputs (b : Bool) (s : State) :
    setEnv b ps as s = setInputs ps as (s.setTickPending b) := rfl

theorem tickPhase_setInputs (s : State) : tickPhase (setInputs ps as s) = setInputs ps as (tickPhase s) := by
  cases pending : s.tickPending with
  | false =>
    have same : (setInputs ps as s).tickPending = false := pending
    rw [tickPhase_of_not_pending same, tickPhase_of_not_pending pending]
    rfl
  | true =>
    have same : (setInputs ps as s).tickPending = true := pending
    rw [Accumulator.tickPhase_eq_of_pending same, Accumulator.tickPhase_eq_of_pending pending]
    rfl

end

/-- What an iteration can do: a POLL phase that ends in `u`, then PULSE, the expiries, TICK and STATUS. -/
theorem iteration_eq {rx : Option RawFrame} {disc : Bool} {s u : State} (polled : pollPhase rx disc s = .next u)
    (fires : Nat) (ps : List PollInput) (as : List (List AsyncEvent)) :
    iteration rx disc fires (setInputs ps as s) =
      .next (setInputs ps as (statusPhase (tickPhase
        ((pulsePhase u).setTickPending (s.tickPending || decide (1 ≤ fires)))))) := by
  have ends := iteration_setEnv s.tickPending fires ps as polled
  rw [setEnv_eq_setInputs, setEnv_eq_setInputs, tickPhase_setInputs] at ends
  exact ends

/-- An iteration completes in POLL under the same configuration, alike for all inputs to come. -/
theorem iteration_completes (rx : Option RawFrame) (disc : Bool) (fires : Nat) (s : State) :
    ∃ t, t.cfg = s.cfg ∧ t.phase = .poll ∧
      ∀ ps as, iteration rx disc fires (setInputs ps as s) = .next (setInputs ps as t) := by
  obtain ⟨u, polled⟩ := pollPhase_completes rx disc s
  refine ⟨_, ?_, rfl, iteration_eq polled fires⟩
  rw [statusPhase, State.setPhase_cfg, (tickPhase_frame _).cfg, State.setTickPending_cfg, (pulsePhase_frame u).cfg,
    pollPhase_cfg polled]

/-- Settles O59, by induction on the list: four steps do its first iteration and leave the inputs of the others. -/
theorem runIsAListOfIterations : Obligations.RunIsAListOfIterations := by
  intro is s ps as legal phase
  induction is generalizing s with
  | nil => rfl
  | cons i is ih =>
    obtain ⟨t, cfg, polls, iterated⟩ := iteration_completes i.rx i.disc i.fires s
    have fourSteps : runSteps 4 (setInputs (pollsOf (i :: is) ++ ps) (asyncOf (i :: is) ++ as) s) =
        .next (setInputs (pollsOf is ++ ps) (asyncOf is ++ as) t) := by
      have done := fourStepsAreOneIteration s i.rx i.disc 0 0 i.fires (pollsOf is ++ ps) (asyncOf is ++ as) legal phase
      rw [Nat.zero_add] at done
      exact done.trans (iterated _ _)
    calc runSteps (4 * (is.length + 1)) (setInputs (pollsOf (i :: is) ++ ps) (asyncOf (i :: is) ++ as) s)
      _ = runSteps (4 * is.length) (setInputs (pollsOf is ++ ps) (asyncOf is ++ as) t) := by
        rw [Nat.mul_succ, Nat.add_comm, runSteps_add fourSteps]
      _ = runIterations is (setInputs ps as t) := ih t (by rw [cfg, legal]) polls
      _ = runIterations (i :: is) (setInputs ps as s) := (runIterations_cons_next (iterated ps as) is).symm

end Sys2Proof.Proofs.Reset
end

section
/-! The frames of 95_test_vectors.md that are written out byte by byte (tables B1, B2 and T1), read by the rules for
all frames. -/

namespace Sys2Proof.Proofs.TestVectors

open Sys2Proof.Claims Sys2Proof.Proofs.Encoding Sys2Proof.Proofs.Motion

/-- Under the fixed configuration byte 3 is the code, whatever the four reserved bytes (30_encoding.md R61, R64). -/
theorem frameHas_fixed (r2 code r4 r5 r6 : Byte) :
    FrameHas Cfg.fixed code (.binary [0xFF, 0x01, r2, code, r4, r5, r6]) :=
  ⟨_, rfl, rfl, rfl, rfl, rfl⟩

theorem decode_fixed_of_opcode {i : Instr} {code : Byte} (src : i.src = .binary) (row : i.opcode = [code])
    (r2 r4 r5 r6 : Byte) : decode Cfg.fixed (.binary [0xFF, 0x01, r2, code, r4, r5, r6]) = .instr i := by
  have legal : Cfg.fixed.legal = true := by decide
  exact (decode_eq_binary legal src row _).mpr (frameHas_fixed r2 code r4 r5 r6)

theorem decode_fixed_of_unmapped {code : Byte} (unmapped : code ∉ mappedCodes) (r2 r4 r5 r6 : Byte) :
    decode Cfg.fixed (.binary [0xFF, 0x01, r2, code, r4, r5, r6]) = .unknown (.code code) := by
  rw [decode_frameHas (frameHas_fixed r2 code r4 r5 r6), decodeCode_of_unmapped rfl unmapped]

/-- A line without whitespace that is no row's token is `Unknown` as it stands (40_decoder.md R85). -/
theorem decodeText_of_foreign {t : List Byte} (plain : ∀ b ∈ t, isSpace b = false)
    (foreign : tokenTable.lookup t = none) : decodeText t = .unknown (.token t) := by
  simp only [decodeText, trim_eq_self plain, foreign]

/-- Settles O3: a binary vector is decoded by byte 3 alone, and a text vector is a token padded with whitespace or,
since case counts, no token. -/
theorem sampleFramesDecode : Obligations.SampleFramesDecode := by
  have padded : LineHas Instr.tC2.opcode (.text [0x20, 0x20, 0x43, 0x32, 0x09]) :=
    ⟨[0x20, 0x20], [0x09], rfl, rfl, rfl⟩
  have ended : LineHas Instr.tS.opcode (.text [0x53, 0x0D]) := ⟨[], [0x0D], rfl, rfl, rfl⟩
  have plain : ∀ b ∈ ([0x63, 0x32] : List Byte), isSpace b = false := by decide
  refine ⟨?azf, ?reservedBytes, ?codeNotByte6, ?lu, ?notBitwise, ?paddedToken, ?endedToken, ?lowerCase⟩
  case azf | reservedBytes | codeNotByte6 | lu => exact decode_fixed_of_opcode rfl rfl _ _ _ _
  case notBitwise => exact decode_fixed_of_unmapped (by decide) _ _ _ _
  case paddedToken => exact (decodeText_eq_instr _ _).mpr ⟨rfl, padded⟩
  case endedToken => exact (decodeText_eq_instr _ _).mpr ⟨rfl, ended⟩
  case lowerCase => exact decodeText_of_foreign plain rfl

end Sys2Proof.Proofs.TestVectors
end
